-- ==== Sys2Proof/Word.lean ====
section
/-! DEFINITION. The words of the block (00_scope.md R8, R9): bit vectors named after the formats whose bits they
hold. A register holds bits; its integer reading is taken in Machine/Arith.lean. -/

namespace Sys2Proof

/-- A register, command or data word: 32 bits (R8, `10_state.md` R27). -/
abbrev Word := BitVec 32

/-- A register number of the register space: 8 bits (`10_state.md` R27, R35). -/
abbrev RegNum := BitVec 8

/-- The `UNIT` field of a command word, bits 23:16 (`30_encoding.md` R91). -/
abbrev UnitIndex := BitVec 8

/-- Sample, s4.12 (`00_scope.md` R6). -/
abbrev Sample := BitVec 16

/-- Note, u7.9 (`00_scope.md` R6). -/
abbrev Note := BitVec 16

/-- NoteOffset, s7.9 (`00_scope.md` R6). -/
abbrev NoteOffset := BitVec 16

/-- Scalar, u0.16 (`00_scope.md` R6). -/
abbrev Scalar := BitVec 16

/-- IScalar, s1.15 (`00_scope.md` R6). -/
abbrev IScalar := BitVec 16

/-- EnvParam, u4.12 seconds (`00_scope.md` R6, R7). -/
abbrev EnvParam := BitVec 16

/-- LfoFreq, u5.11 Hz (`00_scope.md` R6, R7). -/
abbrev LfoFreq := BitVec 16

/-- An OscSync register value: `TAG` in 17:16, `FRAC` in 15:0 (`30_encoding.md` R102). -/
abbrev SyncWord := BitVec 18

/-- The 64-bit state of a pseudo-random generator or a 64-bit seed (`44_lfo.md` R203, R205). -/
abbrev Prng := BitVec 64

end Sys2Proof
end

