-- ==== Sys2Proof/Config.lean ====
section
/-! DEFINITION. What is fixed for the block (`00_scope.md` R6) and the model's free values. -/

namespace Sys2Proof.Config

/-- `N_OSC` (`00_scope.md` R6, `30_encoding.md` R92). -/
def nOsc : Nat := 2

/-- `N_ENV` (`00_scope.md` R6, `30_encoding.md` R92). -/
def nEnv : Nat := 4

/-- `N_LFO` (`00_scope.md` R6, `30_encoding.md` R92). -/
def nLfo : Nat := 2

/-- FREE VALUE, log entry 7 (DESIGN CHOICE, safe): `K1[rate]` at a rate that is neither 44100 nor 48000. The spec
gives `K1` for the two supported rates only (`21_rom_tables.md` R83) and no run reaches another (`45_system.md` R223). -/
opaque freeK1 : Word → BitVec 16

/-- FREE VALUE, log entry 7 (DESIGN CHOICE, safe): `K2[rate]` at a rate that is neither 44100 nor 48000 (R83, R223). -/
opaque freeK2 : Word → BitVec 16

/-- FREE VALUE, log entry 7 (DESIGN CHOICE, safe): `HALF_SR[rate]` at a rate that is neither 44100 nor 48000
(R83, R223). -/
opaque freeHalfSr : Word → BitVec 16

end Sys2Proof.Config
end

