-- ==== Sys2Proof/Syntax.lean ====
section
/-! DEFINITION. The 17 commands of `30_encoding.md` R93: one constructor per row of the opcode table, with the
operand its format carries (R91): none for format N, the unit index for U, the `sync` bit for P. -/

namespace Sys2Proof

/-- A command. The unit index is the whole 8-bit `UNIT` field: its range is checked after the code and the reserved
fields (`30_encoding.md` R92, R94), so an out-of-range index is an ill-formed command, not another one. -/
inductive Instr where
  /-- `NOP`, OPC 0x00, format N (`45_system.md` R221). -/
  | nop
  /-- `SINPI`, OPC 0x10, format N (`40_math.md` R121). -/
  | sinpi
  /-- `COSPI`, OPC 0x11, format N (`40_math.md` R122). -/
  | cospi
  /-- `TAN`, OPC 0x12, format N (`40_math.md` R123). -/
  | tan
  /-- `EXP2`, OPC 0x13, format N (`40_math.md` R124). -/
  | exp2
  /-- `RCP1P`, OPC 0x14, format N (`40_math.md` R127). -/
  | rcp1p
  /-- `RCP1M`, OPC 0x15, format N (`40_math.md` R128). -/
  | rcp1m
  /-- `N2F`, OPC 0x16, format N (`40_math.md` R125). -/
  | n2f
  /-- `OSC.NEXT u`, OPC 0x20, format U (`41_oscillator.md` R150). -/
  | oscNext (unit : UnitIndex)
  /-- `OSC.PAIR sync`, OPC 0x21, format P (`41_oscillator.md` R151). -/
  | oscPair (sync : Bool)
  /-- `OSC.RST u`, OPC 0x2F, format U (`41_oscillator.md` R152). -/
  | oscRst (unit : UnitIndex)
  /-- `FILT.NEXT`, OPC 0x30, format N (`42_filter.md` R172). -/
  | filtNext
  /-- `FILT.RST`, OPC 0x3F, format N (`42_filter.md` R173). -/
  | filtRst
  /-- `ENV.NEXT e`, OPC 0x40, format U (`43_envelope.md` R190). -/
  | envNext (unit : UnitIndex)
  /-- `ENV.RST e`, OPC 0x4F, format U (`43_envelope.md` R191). -/
  | envRst (unit : UnitIndex)
  /-- `LFO.NEXT l`, OPC 0x50, format U (`44_lfo.md` R210). -/
  | lfoNext (unit : UnitIndex)
  /-- `LFO.SEED l`, OPC 0x5F, format U (`44_lfo.md` R206). -/
  | lfoSeed (unit : UnitIndex)
deriving DecidableEq, Repr

end Sys2Proof
end

