-- ==== Sys2Proof/WellFormed.lean ====
section
/-! DEFINITION. Which commands name a unit that exists (`30_encoding.md` R92), and which need a context
(`45_system.md` R220). -/

namespace Sys2Proof

/-- The unit index of a format-U command and the number of units of its class (`30_encoding.md` R92, R96 `count`);
none for the formats N and P, which name no unit. -/
def Instr.unitOf : Instr → Option (UnitIndex × Nat)
  | .nop => none
  | .sinpi => none
  | .cospi => none
  | .tan => none
  | .exp2 => none
  | .rcp1p => none
  | .rcp1m => none
  | .n2f => none
  | .oscNext u => some (u, Config.nOsc)
  | .oscPair _ => none
  | .oscRst u => some (u, Config.nOsc)
  | .filtNext => none
  | .filtRst => none
  | .envNext u => some (u, Config.nEnv)
  | .envRst u => some (u, Config.nEnv)
  | .lfoNext u => some (u, Config.nLfo)
  | .lfoSeed u => some (u, Config.nLfo)

/-- A command is well formed when the unit it names exists (`30_encoding.md` R92). -/
def Instr.wellFormed (i : Instr) : Bool :=
  match i.unitOf with
  | none => true
  | some (u, count) => decide (u.toNat < count)

/-- The per-sample commands, which need `CTX_VALID` = 1 (`45_system.md` R220, `60_exceptions.md` R241 row 4). -/
def Instr.needsContext : Instr → Bool
  | .nop => false
  | .sinpi => false
  | .cospi => false
  | .tan => false
  | .exp2 => false
  | .rcp1p => false
  | .rcp1m => false
  | .n2f => false
  | .oscNext _ => true
  | .oscPair _ => true
  | .oscRst _ => false
  | .filtNext => true
  | .filtRst => false
  | .envNext _ => true
  | .envRst _ => false
  | .lfoNext _ => true
  | .lfoSeed _ => false

end Sys2Proof
end

