-- ==== Sys2Proof/Decode.lean ====
section
/-! DEFINITION. Command words: the decoder of `30_encoding.md` R96, total on every 32-bit word and rejecting by
name, and the encoder written from the same table (R91, R93, R105). -/

namespace Sys2Proof

/-- Why a word is no command (`30_encoding.md` R96 to R98). Both are reported as `CmdError`. -/
inductive Illegal where
  /-- Bits 31:24 are not a row of R93 with a mnemonic (0x17 included). -/
  | unassigned
  /-- The code is assigned and a reserved field of its format is not zero (R97). -/
  | reservedField
deriving DecidableEq, Repr

/-- The three results of `decode` (`30_encoding.md` R96). -/
inductive Decoded where
  /-- `Illegal`: reported as `CmdError`. -/
  | illegal (why : Illegal)
  /-- `BadUnit`: the command is recognised and names a unit that does not exist; reported as `UnitError`. -/
  | badUnit (i : Instr)
  /-- `Command(mnemonic, unit, sync)`. -/
  | command (i : Instr)
deriving DecidableEq, Repr

/-- `OPC`, bits 31:24 (`30_encoding.md` R91). -/
def opcField (c : Word) : BitVec 8 := c.extractLsb' 24 8

/-- `UNIT`, bits 23:16 (`30_encoding.md` R91). -/
def unitField (c : Word) : UnitIndex := c.extractLsb' 16 8

/-- `IMM`, bits 15:0 (`30_encoding.md` R91). -/
def immField (c : Word) : BitVec 16 := c.extractLsb' 0 16

/-- A row of the opcode map with its format (`30_encoding.md` R91, R93). -/
inductive OpRow where
  /-- Format N: `UNIT` and `IMM` reserved. -/
  | n (i : Instr)
  /-- Format U: `UNIT` is the unit index, `IMM` reserved. -/
  | u (make : UnitIndex → Instr)
  /-- Format P: `UNIT` and `IMM[15:1]` reserved, `IMM[0]` is `sync`. -/
  | p (make : Bool → Instr)

/-- The assigned operation codes (`30_encoding.md` R93). Every other code, 0x17 among them, is unassigned (R98). -/
def opRow (opc : BitVec 8) : Option OpRow :=
  match opc with
  | 0x00#8 => some (.n .nop)
  | 0x10#8 => some (.n .sinpi)
  | 0x11#8 => some (.n .cospi)
  | 0x12#8 => some (.n .tan)
  | 0x13#8 => some (.n .exp2)
  | 0x14#8 => some (.n .rcp1p)
  | 0x15#8 => some (.n .rcp1m)
  | 0x16#8 => some (.n .n2f)
  | 0x20#8 => some (.u .oscNext)
  | 0x21#8 => some (.p .oscPair)
  | 0x2F#8 => some (.u .oscRst)
  | 0x30#8 => some (.n .filtNext)
  | 0x3F#8 => some (.n .filtRst)
  | 0x40#8 => some (.u .envNext)
  | 0x4F#8 => some (.u .envRst)
  | 0x50#8 => some (.u .lfoNext)
  | 0x5F#8 => some (.u .lfoSeed)
  | _ => none

/-- The unit check, the last check of decoding (`30_encoding.md` R96, `60_exceptions.md` R243 3c). -/
def checkUnit (i : Instr) : Decoded := if i.wellFormed then .command i else .badUnit i

/-- `decode(c)` (`30_encoding.md` R96): code, then reserved fields, then unit. -/
def decode (c : Word) : Decoded :=
  match opRow (opcField c) with
  | none => .illegal .unassigned
  | some (.n i) =>
      if unitField c ≠ 0 ∨ immField c ≠ 0 then .illegal .reservedField else checkUnit i
  | some (.u make) =>
      if immField c ≠ 0 then .illegal .reservedField else checkUnit (make (unitField c))
  | some (.p make) =>
      if unitField c ≠ 0 ∨ (immField c).extractLsb' 1 15 ≠ 0 then .illegal .reservedField
      else checkUnit (make ((immField c).getLsbD 0))

/-- A command word from its three fields (`30_encoding.md` R91). -/
def commandWord (opc : BitVec 8) (unit : UnitIndex) (imm : BitVec 16) : Word := opc ++ unit ++ imm

/-- The word of a command (`30_encoding.md` R91, R93, R105). -/
def encode : Instr → Word
  | .nop => commandWord 0x00 0 0
  | .sinpi => commandWord 0x10 0 0
  | .cospi => commandWord 0x11 0 0
  | .tan => commandWord 0x12 0 0
  | .exp2 => commandWord 0x13 0 0
  | .rcp1p => commandWord 0x14 0 0
  | .rcp1m => commandWord 0x15 0 0
  | .n2f => commandWord 0x16 0 0
  | .oscNext u => commandWord 0x20 u 0
  | .oscPair sync => commandWord 0x21 0 (if sync then 1 else 0)
  | .oscRst u => commandWord 0x2F u 0
  | .filtNext => commandWord 0x30 0 0
  | .filtRst => commandWord 0x3F 0 0
  | .envNext u => commandWord 0x40 u 0
  | .envRst u => commandWord 0x4F u 0
  | .lfoNext u => commandWord 0x50 u 0
  | .lfoSeed u => commandWord 0x5F u 0

/-- The word the host's table numbers as `w`: the low `nbits` bits of `w`, zeros above. A command is one 32-bit word
(`30_encoding.md` R90). -/
def tableWord (nbits w : Nat) : Word := BitVec.ofNat 32 (w % 2 ^ nbits)

/-- The command the decoder reads from a table word. A recognised command whose unit does not exist is still that
row's command (`30_encoding.md` R94: "the `UNIT` field is free and range-checked afterwards"). -/
def decodeTableWord (nbits w : Nat) : Option Instr :=
  match decode (tableWord nbits w) with
  | .illegal _ => none
  | .badUnit i => some i
  | .command i => some i

end Sys2Proof
end

