-- ==== Sys2Proof/Machine/State.lean ====
section
/-! DEFINITION. The whole state of the block: the registers of `10_state.md` R27 ("There is no other state", R20), and
beside them the model's two own fields, the host's coming transactions and the data returned to it. -/

namespace Sys2Proof.Machine

/-- `ENVe_STATE` (`30_encoding.md` R104). The encoding's spare value 3 "never occurs" (`93_implementation_defined.md`
V9: "a model may use a three-valued type"; log entry 8). -/
inductive EnvState where
  /-- Code 0. -/
  | release
  /-- Code 1. -/
  | attack
  /-- Code 2. -/
  | decay
deriving DecidableEq, Repr

/-- The registers of one oscillator (`10_state.md` R27, rows OSC+0 to OSC+9). -/
structure OscUnit where
  /-- `OSCu_NOTE` -/
  note : Note
  /-- `OSCu_TUNE` -/
  tune : NoteOffset
  /-- `OSCu_SHAPE` -/
  shape : Scalar
  /-- `OSCu_SYNC_IN` -/
  syncIn : SyncWord
  /-- `OSCu_SIN` -/
  sin : Sample
  /-- `OSCu_SQ` -/
  sq : Sample
  /-- `OSCu_TRI` -/
  tri : Sample
  /-- `OSCu_SAW` -/
  saw : Sample
  /-- `OSCu_SYNC_OUT` -/
  syncOut : SyncWord
  /-- `OSCu_PHASE`: the warped phase, s4.28 half-turns (R30, `41_oscillator.md` R141) -/
  phase : Word
deriving DecidableEq, Repr

/-- The registers of the filter (`10_state.md` R27, 0x30 to 0x37). -/
structure FiltUnit where
  /-- `FILT_IN` -/
  input : Sample
  /-- `FILT_CUTOFF` -/
  cutoff : Note
  /-- `FILT_RES` -/
  res : Scalar
  /-- `FILT_LOW` -/
  low : Sample
  /-- `FILT_BAND` -/
  band : Sample
  /-- `FILT_HIGH` -/
  high : Sample
  /-- `FILT_ZLOW`, s12.20 (R31) -/
  zLow : Word
  /-- `FILT_ZBAND`, s12.20 (R31) -/
  zBand : Word
deriving DecidableEq, Repr

/-- The registers of one envelope (`10_state.md` R27, rows ENV+0 to ENV+8). -/
structure EnvUnit where
  /-- `ENVe_GATE` -/
  gate : Sample
  /-- `ENVe_ATTACK` -/
  attack : EnvParam
  /-- `ENVe_DECAY` -/
  decay : EnvParam
  /-- `ENVe_SUSTAIN` -/
  sustain : Scalar
  /-- `ENVe_RELEASE` -/
  release : EnvParam
  /-- `ENVe_OUT` -/
  out : Scalar
  /-- `ENVe_STATE` -/
  state : EnvState
  /-- `ENVe_LAST`, s3.29 (R32) -/
  last : Word
  /-- `ENVe_SP_PREV`, s3.29 (R32) -/
  spPrev : Word
deriving DecidableEq, Repr

/-- The registers of one LFO (`10_state.md` R27, rows LFO+0 to LFO+C). -/
structure LfoUnit where
  /-- `LFOl_GATE` -/
  gate : Sample
  /-- `LFOl_FREQ` -/
  freq : LfoFreq
  /-- `LFOl_DEPTH` -/
  depth : Scalar
  /-- `LFOl_OPTIONS` -/
  options : BitVec 16
  /-- `LFOl_OUT` -/
  out : Sample
  /-- `LFOl_PHASE`: radians, s4.28 (R33) -/
  phase : Word
  /-- `LFOl_PREV_GATE` -/
  prevGate : Bool
  /-- `LFOl_RAND0` -/
  rand0 : IScalar
  /-- `LFOl_RAND1` -/
  rand1 : IScalar
  /-- `LFOl_SEED_LO` -/
  seedLo : Word
  /-- `LFOl_SEED_HI` -/
  seedHi : Word
  /-- `LFOl_PRNG_LO` -/
  prngLo : Word
  /-- `LFOl_PRNG_HI` -/
  prngHi : Word
deriving DecidableEq, Repr

/-- What the world outside the block does to it, one at a time (`20_memory.md` R61, R67; `70_reset_and_hazards.md`
R260). "A model's notion of next instruction is the next element of the host's list of transactions" (`10_state.md`
R22). -/
inductive HostEvent where
  /-- `WR(a, d)`: the host writes the word `d` to register `a` (R61). A command is `WR(0x03, word)`. -/
  | wr (a : RegNum) (d : Word)
  /-- `RD(a)`: the host reads register `a` (R61). -/
  | rd (a : RegNum)
  /-- The platform's hardware reset (R260). -/
  | hwReset
  /-- A transaction of a second host, which is outside the spec (`20_memory.md` R67, V12; log entry 5). -/
  | otherHost
deriving DecidableEq, Repr

/-- The state: the registers of `10_state.md` R27 (`CMD` holds no value and has no field), and the model's own `host`
and `answers` (log entries 1 and 2). -/
structure State where
  /-- `CTX_RATE` (R24) -/
  ctxRate : Word
  /-- `STATUS` (R25), its 13 significant bits -/
  status : BitVec 13
  /-- `ERRINFO` (R26) -/
  errInfo : Word
  /-- `MATH_ARG` -/
  mathArg : Word
  /-- `MATH_RES` -/
  mathRes : Word
  /-- `MATH_EXP` -/
  mathExp : Word
  /-- oscillator 0, the primary of the sync pair -/
  osc0 : OscUnit
  /-- oscillator 1, the secondary -/
  osc1 : OscUnit
  /-- the filter -/
  filt : FiltUnit
  /-- envelope 0 -/
  env0 : EnvUnit
  /-- envelope 1 -/
  env1 : EnvUnit
  /-- envelope 2 -/
  env2 : EnvUnit
  /-- envelope 3 -/
  env3 : EnvUnit
  /-- LFO 0 -/
  lfo0 : LfoUnit
  /-- LFO 1 -/
  lfo1 : LfoUnit
  /-- the MODEL's own field: the host's events still to come, first one first (log entry 1) -/
  host : List HostEvent
  /-- the MODEL's own field: the data words returned to the host's reads, oldest first (log entry 2) -/
  answers : List Word
deriving DecidableEq, Repr

/-- The five error causes (`60_exceptions.md` R241). An error is recorded, never a stop (R240). -/
inductive ErrCause where
  /-- Code 1, `STATUS` bit 8. -/
  | rate
  /-- Code 2, `STATUS` bit 9. -/
  | cmd
  /-- Code 3, `STATUS` bit 10. -/
  | unit
  /-- Code 4, `STATUS` bit 11. -/
  | noCtx
  /-- Code 5, `STATUS` bit 12. -/
  | addr
deriving DecidableEq, Repr

/-- The faults that stop the machine: none. "There is no trap ... later transactions are performed normally (the block
does not halt, lock up or enter an error state)" (`60_exceptions.md` R240). Nobody raises a fault; safe. -/
inductive Fault where
deriving DecidableEq, Repr

/-- Why the model declines to go on. -/
inductive Refusal where
  /-- An instruction with no meaning yet: raised by an arm of `exec`, never by a meaning; no arm does. Safe. -/
  | notModelled (mnemonic : String)
  /-- Raised by `step` at the event `otherHost`: a second host drives this instance. "Their interleaving is outside
  this spec and a model should refuse it" (`20_memory.md` R67, V12; log entry 5). Safe. -/
  | secondHost
deriving DecidableEq, Repr

/-- An oscillator after reset (`10_state.md` R27, R40). -/
def OscUnit.reset : OscUnit where
  note := 0
  tune := 0
  shape := 0
  syncIn := 0
  sin := 0
  sq := 0
  tri := 0
  saw := 0
  syncOut := 0
  phase := 0

/-- The filter after reset (`10_state.md` R27, R40). -/
def FiltUnit.reset : FiltUnit where
  input := 0
  cutoff := 0
  res := 0
  low := 0
  band := 0
  high := 0
  zLow := 0
  zBand := 0

/-- An envelope after reset: Release at `SIGNAL_MIN` (`10_state.md` R27, R40). -/
def EnvUnit.reset : EnvUnit where
  gate := 0
  attack := 0
  decay := 0
  sustain := 0
  release := 0
  out := 0x0004
  state := .release
  last := 0x00008000
  spPrev := 0x00008000

/-- An LFO after reset: the default options, the generator as seeded with 0 (`10_state.md` R27, R40). -/
def LfoUnit.reset : LfoUnit where
  gate := 0
  freq := 0
  depth := 0
  options := 0x0300
  out := 0
  phase := 0
  prevGate := false
  rand0 := 0
  rand1 := 0
  seedLo := 0
  seedHi := 0
  prngLo := 0x7F4A7C15
  prngHi := 0x9E3779B9

/-- The machine right after reset (`10_state.md` R40, `70_reset_and_hazards.md` R260). The model's own fields are
empty (log entries 1 and 2, DESIGN CHOICE). -/
def State.reset : State where
  ctxRate := 0
  status := 0
  errInfo := 0
  mathArg := 0
  mathRes := 0
  mathExp := 0
  osc0 := OscUnit.reset
  osc1 := OscUnit.reset
  filt := FiltUnit.reset
  env0 := EnvUnit.reset
  env1 := EnvUnit.reset
  env2 := EnvUnit.reset
  env3 := EnvUnit.reset
  lfo0 := LfoUnit.reset
  lfo1 := LfoUnit.reset
  host := []
  answers := []

end Sys2Proof.Machine
end

