-- ==== Sys2Proof/Machine/Flags.lean ====
section
/-! DEFINITION. The only flag-like state: the fields of `STATUS` (`10_state.md` R23, R25) and the two ways it is written.
There are no arithmetic condition codes (R23). -/

namespace Sys2Proof.Machine

/-- `STATUS.CTX_VALID`, bit 0 (R25). -/
def ctxValid (st : BitVec 13) : Bool := st.getLsbD 0

/-- `STATUS.LAST_CAUSE`, bits 7:4 (R25). -/
def lastCause (st : BitVec 13) : BitVec 4 := st.extractLsb' 4 4

/-- The cause code of an error (`60_exceptions.md` R241). -/
def causeCode : ErrCause → BitVec 4
  | .rate => 1
  | .cmd => 2
  | .unit => 3
  | .noCtx => 4
  | .addr => 5

/-- The bit number of an error's sticky bit in `STATUS` (`10_state.md` R25, `60_exceptions.md` R241). -/
def causeBit : ErrCause → Nat
  | .rate => 8
  | .cmd => 9
  | .unit => 10
  | .noCtx => 11
  | .addr => 12

/-- The sticky bit of an error (R25). -/
def errBit (e : ErrCause) (st : BitVec 13) : Bool := st.getLsbD (causeBit e)

/-- `STATUS` after a successful write of `CTX_RATE`: `CTX_VALID` set, the rest kept (`45_system.md` R224). -/
def setCtxValid (st : BitVec 13) : BitVec 13 := st ||| 1

/-- `STATUS` after `report e`: the sticky bit set, `LAST_CAUSE` replaced, the rest kept (`60_exceptions.md` R242). -/
def recordCause (e : ErrCause) (st : BitVec 13) : BitVec 13 :=
  (st &&& ~~~0x0F0#13) ||| ((causeCode e).setWidth 13 <<< 4) ||| (1#13 <<< causeBit e)

end Sys2Proof.Machine
end

