-- ==== Sys2Proof/Machine/Arith.lean ====
section
/-! DEFINITION. The pseudocode primitives of `00_scope.md` R10. Every rule computes on exact integers (R11); these
are the readings of register bits as integers and the named narrowings. -/

namespace Sys2Proof.Machine

/-- `u16(r)`: the bits as an unsigned integer (R10). -/
def u16 (v : BitVec 16) : Int := v.toNat

/-- `s16(r)`: the bits as a two's-complement integer (R10). -/
def s16 (v : BitVec 16) : Int := v.toInt

/-- `u32(r)` (R10). -/
def u32 (v : Word) : Int := v.toNat

/-- `s32(r)` (R10). -/
def s32 (v : Word) : Int := v.toInt

/-- The low 16 bits of the two's complement of `v`: what a rule stores with `zext_32(v mod 65536)` (`10_state.md` R28). -/
def to16 (v : Int) : BitVec 16 := BitVec.ofInt 16 v

/-- `sext_32(v)`, and `zext_32(v)` for `v` below 2^32: `v mod 2^32` (R10). -/
def to32 (v : Int) : Word := BitVec.ofInt 32 v

/-- `asr(v, n)`: floor of `v / 2^n` (R10). -/
def asr (v : Int) (n : Nat) : Int := v / 2 ^ n

/-- `shl(v, n)`: `v · 2^n` (R10). -/
def shl (v : Int) (n : Nat) : Int := v * 2 ^ n

/-- `fdiv(a, b)`: floor of `a / b`, for `b > 0` (R10). -/
def fdiv (a b : Int) : Int := a / b

/-- `tdiv(a, b)`: `a / b` rounded toward zero, for `b > 0` (R10). -/
def tdiv (a b : Int) : Int := Int.tdiv a b

/-- `clamp(v, lo, hi)` (R10). -/
def clamp (v lo hi : Int) : Int := if v < lo then lo else if hi < v then hi else v

/-- `sat_s16(v)` (R10). -/
def satS16 (v : Int) : Int := clamp v (-32768) 32767

/-- `sat_u16(v)` (R10). -/
def satU16 (v : Int) : Int := clamp v 0 65535

/-- `sat_s32(v)` (R10). -/
def satS32 (v : Int) : Int := clamp v (-2147483648) 2147483647

/-- `sat_u32(v)` (R10). -/
def satU32 (v : Int) : Int := clamp v 0 4294967295

/-- `bitlen(v)` for `v > 0`: the position of the most significant 1 bit plus one (R10). -/
def bitlen (v : Int) : Nat := Nat.log2 v.toNat + 1

end Sys2Proof.Machine
end

