-- ==== Sys2Proof/Machine/Operands.lean ====
section
/-! DEFINITION. The packed and tagged operand kinds (`30_encoding.md` R99, R102 to R104, `44_lfo.md` R201). -/

namespace Sys2Proof.Machine

/-- OscSync, the tagged sum (`30_encoding.md` R102). -/
inductive OscSync where
  /-- Tag 0 (and the reserved tag 3). -/
  | off
  /-- Tag 1. -/
  | primary
  /-- Tag 2 with the crossing fraction. -/
  | secondary (frac : Scalar)
deriving DecidableEq, Repr

/-- `decode_sync`: tag 3 is read as `Off`, the fraction is ignored unless the tag is 2 (R99, R102,
`41_oscillator.md` R147). -/
def decodeSync (v : SyncWord) : OscSync :=
  match v.extractLsb' 16 2 with
  | 1#2 => .primary
  | 2#2 => .secondary (v.extractLsb' 0 16)
  | _ => .off

/-- `encode_sync` (R102, `41_oscillator.md` R150). -/
def encodeSync : OscSync → SyncWord
  | .off => 0x00000
  | .primary => 0x10000
  | .secondary c => 0x20000#18 ||| c.setWidth 18

/-- The six LFO waveforms (`30_encoding.md` R103). -/
inductive LfoWave where
  /-- Code 0, and every code above 5. -/
  | sine
  /-- Code 1. -/
  | square
  /-- Code 2. -/
  | triangle
  /-- Code 3. -/
  | saw
  /-- Code 4. -/
  | sampleHold
  /-- Code 5. -/
  | sampleGlide
deriving DecidableEq, Repr

/-- `WAVE`, bits 7:0 of `LFOl_OPTIONS`; an invalid code is the sine (R99, R103, `44_lfo.md` R201). -/
def optWave (opt : BitVec 16) : LfoWave :=
  match opt.extractLsb' 0 8 with
  | 1#8 => .square
  | 2#8 => .triangle
  | 3#8 => .saw
  | 4#8 => .sampleHold
  | 5#8 => .sampleGlide
  | _ => .sine

/-- `BIPOLAR`, bit 8 (R103). -/
def optBipolar (opt : BitVec 16) : Bool := opt.getLsbD 8

/-- `RETRIG`, bit 9 (R103). -/
def optRetrig (opt : BitVec 16) : Bool := opt.getLsbD 9

/-- `ENVe_STATE` as its register value (`30_encoding.md` R104). -/
def envStateCode : EnvState → BitVec 2
  | .release => 0
  | .attack => 1
  | .decay => 2

end Sys2Proof.Machine
end

