-- ==== Sys2Proof/Machine/Ops.lean ====
section
/-! DEFINITION. The shared operations: a unit's registers by index, the recording of an error, and the checks a
command makes before it acts. -/

namespace Sys2Proof.Machine

/-- `report E(info)`: the ONE operation that records an error (`60_exceptions.md` R242). "No state is saved, no mode or
mask changes, control goes nowhere" (R247), and there is no return from it. -/
def report (e : ErrCause) (info : Word) (s : State) : State :=
  { s with status := recordCause e s.status, errInfo := info }

/-- The registers of oscillator `u` (`10_state.md` R27). -/
def getOsc (u : Fin 2) (s : State) : OscUnit :=
  match u with
  | 0 => s.osc0
  | 1 => s.osc1

/-- The state with the registers of oscillator `u` replaced. -/
def setOsc (u : Fin 2) (x : OscUnit) (s : State) : State :=
  match u with
  | 0 => { s with osc0 := x }
  | 1 => { s with osc1 := x }

/-- The registers of envelope `e` (`10_state.md` R27). -/
def getEnv (e : Fin 4) (s : State) : EnvUnit :=
  match e with
  | 0 => s.env0
  | 1 => s.env1
  | 2 => s.env2
  | 3 => s.env3

/-- The state with the registers of envelope `e` replaced. -/
def setEnv (e : Fin 4) (x : EnvUnit) (s : State) : State :=
  match e with
  | 0 => { s with env0 := x }
  | 1 => { s with env1 := x }
  | 2 => { s with env2 := x }
  | 3 => { s with env3 := x }

/-- The registers of LFO `l` (`10_state.md` R27). -/
def getLfo (l : Fin 2) (s : State) : LfoUnit :=
  match l with
  | 0 => s.lfo0
  | 1 => s.lfo1

/-- The state with the registers of LFO `l` replaced. -/
def setLfo (l : Fin 2) (x : LfoUnit) (s : State) : State :=
  match l with
  | 0 => { s with lfo0 := x }
  | 1 => { s with lfo1 := x }

/-- The unit check of a format-U command (`30_encoding.md` R92, `60_exceptions.md` R243 3c): `body` on the unit, or
`UnitError` with the command word. -/
def onUnit (count : Nat) (i : Instr) (u : UnitIndex) (body : Fin count → State → State) (s : State) : State :=
  if h : u.toNat < count then body ⟨u.toNat, h⟩ s else report .unit (encode i) s

/-- The context check of a per-sample command (`45_system.md` R220, `60_exceptions.md` R243 3d): `body`, or
`NoCtxError` with the command word. -/
def inContext (i : Instr) (body : State → State) (s : State) : State :=
  if ctxValid s.status then body s else report .noCtx (encode i) s

end Sys2Proof.Machine
end

