-- ==== Sys2Proof/Machine/Rom.lean ====
section
/-! DEFINITION. The three ROM tables and the constants of `21_rom_tables.md`: literals, normative as they stand there. -/

namespace Sys2Proof.Machine

/-- Entries 0 to 127 of `SIN_TAB` (R80). -/
def sinRows0 : List Int :=
  [0, -402, -804, -1205, -1606, -2006, -2404, -2801,
   -3196, -3590, -3981, -4370, -4756, -5139, -5520, -5897,
   -6270, -6639, -7005, -7366, -7723, -8076, -8423, -8765,
   -9102, -9434, -9760, -10080, -10394, -10702, -11003, -11297,
   -11585, -11866, -12140, -12406, -12665, -12916, -13160, -13395,
   -13623, -13842, -14053, -14256, -14449, -14635, -14811, -14978,
   -15137, -15286, -15426, -15557, -15679, -15791, -15893, -15986,
   -16069, -16143, -16207, -16261, -16305, -16340, -16364, -16379,
   -16384, -16379, -16364, -16340, -16305, -16261, -16207, -16143,
   -16069, -15986, -15893, -15791, -15679, -15557, -15426, -15286,
   -15137, -14978, -14811, -14635, -14449, -14256, -14053, -13842,
   -13623, -13395, -13160, -12916, -12665, -12406, -12140, -11866,
   -11585, -11297, -11003, -10702, -10394, -10080, -9760, -9434,
   -9102, -8765, -8423, -8076, -7723, -7366, -7005, -6639,
   -6270, -5897, -5520, -5139, -4756, -4370, -3981, -3590,
   -3196, -2801, -2404, -2006, -1606, -1205, -804, -402]

/-- Entries 128 to 255 of `SIN_TAB` (R80). -/
def sinRows1 : List Int :=
  [0, 402, 804, 1205, 1606, 2006, 2404, 2801,
   3196, 3590, 3981, 4370, 4756, 5139, 5520, 5897,
   6270, 6639, 7005, 7366, 7723, 8076, 8423, 8765,
   9102, 9434, 9760, 10080, 10394, 10702, 11003, 11297,
   11585, 11866, 12140, 12406, 12665, 12916, 13160, 13395,
   13623, 13842, 14053, 14256, 14449, 14635, 14811, 14978,
   15137, 15286, 15426, 15557, 15679, 15791, 15893, 15986,
   16069, 16143, 16207, 16261, 16305, 16340, 16364, 16379,
   16384, 16379, 16364, 16340, 16305, 16261, 16207, 16143,
   16069, 15986, 15893, 15791, 15679, 15557, 15426, 15286,
   15137, 14978, 14811, 14635, 14449, 14256, 14053, 13842,
   13623, 13395, 13160, 12916, 12665, 12406, 12140, 11866,
   11585, 11297, 11003, 10702, 10394, 10080, 9760, 9434,
   9102, 8765, 8423, 8076, 7723, 7366, 7005, 6639,
   6270, 5897, 5520, 5139, 4756, 4370, 3981, 3590,
   3196, 2801, 2404, 2006, 1606, 1205, 804, 402]

/-- Entries 256 to 256 of `SIN_TAB` (R80). -/
def sinRows2 : List Int :=
  [0]

/-- `SIN_TAB` (R80): 257 entries, signed, s2.14. -/
def sinRom : List Int := sinRows0 ++ sinRows1 ++ sinRows2

/-- Entries 0 to 63 of `EXP2_TAB` (R81). -/
def exp2Rows0 : List Int :=
  [1073741824, 1085434106, 1097253708, 1109202018,
   1121280436, 1133490379, 1145833280, 1158310587,
   1170923762, 1183674286, 1196563654, 1209593378,
   1222764986, 1236080024, 1249540052, 1263146652,
   1276901417, 1290805962, 1304861917, 1319070932,
   1333434672, 1347954824, 1362633090, 1377471191,
   1392470869, 1407633882, 1422962010, 1438457051,
   1454120821, 1469955159, 1485961921, 1502142985,
   1518500250, 1535035634, 1551751076, 1568648537,
   1585730000, 1602997467, 1620452965, 1638098541,
   1655936265, 1673968228, 1692196547, 1710623359,
   1729250827, 1748081133, 1767116489, 1786359126,
   1805811301, 1825475297, 1845353420, 1865448001,
   1885761398, 1906295993, 1927054196, 1948038440,
   1969251188, 1990694927, 2012372174, 2034285470,
   2056437387, 2078830522, 2101467502, 2124350982]

/-- Entries 64 to 64 of `EXP2_TAB` (R81). -/
def exp2Rows1 : List Int :=
  [2147483648]

/-- `EXP2_TAB` (R81): 65 entries, unsigned, u2.30. -/
def exp2Rom : List Int := exp2Rows0 ++ exp2Rows1

/-- Entries 0 to 127 of `RCP_TAB` (R82). -/
def rcpRows0 : List Int :=
  [65536, 65028, 64528, 64035, 63550, 63072, 62602, 62138,
   61681, 61231, 60787, 60350, 59919, 59494, 59075, 58662,
   58254, 57852, 57456, 57065, 56680, 56299, 55924, 55554,
   55188, 54828, 54471, 54120, 53773, 53431, 53092, 52759,
   52429, 52103, 51782, 51464, 51150, 50840, 50534, 50231,
   49932, 49637, 49345, 49056, 48771, 48489, 48210, 47935,
   47663, 47393, 47127, 46864, 46603, 46346, 46091, 45839,
   45590, 45344, 45100, 44859, 44620, 44384, 44151, 43919,
   43691, 43464, 43240, 43019, 42799, 42582, 42367, 42154,
   41943, 41734, 41528, 41323, 41121, 40920, 40721, 40525,
   40330, 40137, 39946, 39756, 39569, 39383, 39199, 39017,
   38836, 38657, 38480, 38304, 38130, 37958, 37787, 37617,
   37449, 37283, 37118, 36954, 36792, 36631, 36472, 36314,
   36158, 36003, 35849, 35696, 35545, 35395, 35246, 35099,
   34953, 34808, 34664, 34521, 34380, 34239, 34100, 33962,
   33825, 33689, 33554, 33421, 33288, 33157, 33026, 32897]

/-- Entries 128 to 128 of `RCP_TAB` (R82). -/
def rcpRows1 : List Int :=
  [32768]

/-- `RCP_TAB` (R82): 129 entries, unsigned, u1.16. -/
def rcpRom : List Int := rcpRows0 ++ rcpRows1

/-- A table read `T[i]` (`20_memory.md` R72). The index is in range for every operand (R72); out of range, which no
rule reaches, reads 0. -/
def romRead (rom : List Int) (i : Int) : Int := rom.getD i.toNat 0

/-- `SIN_TAB[i]` (R80). -/
def sinTab (i : Int) : Int := romRead sinRom i

/-- `EXP2_TAB[j]` (R81). -/
def exp2Tab (j : Int) : Int := romRead exp2Rom j

/-- `RCP_TAB[j]` (R82). -/
def rcpTab (j : Int) : Int := romRead rcpRom j

/-- The first supported rate, 44100 (`00_scope.md` R6 `SR`, `45_system.md` R223). -/
def rate44100 : Word := 44100

/-- The second supported rate, 48000 (R6, R223). -/
def rate48000 : Word := 48000

/-- `K1[rate]`: radians per sample of a frequency, u0.16 (R83). At any other rate a free value (log entry 7). -/
def k1 (rate : Word) : Int :=
  if rate = rate44100 then 38246 else if rate = rate48000 then 35138 else u16 (Config.freeK1 rate)

/-- `K2[rate]`: half-turns per sample of a frequency, u0.16 (R83). At any other rate a free value (log entry 7). -/
def k2 (rate : Word) : Int :=
  if rate = rate44100 then 48696 else if rate = rate48000 then 44739 else u16 (Config.freeK2 rate)

/-- `HALF_SR[rate]`: half the sample rate (R83). At any other rate a free value (log entry 7). -/
def halfSr (rate : Word) : Int :=
  if rate = rate44100 then 22050 else if rate = rate48000 then 24000 else u16 (Config.freeHalfSr rate)

/-- `ONE28`: 1.0 in s4.28 (R84). -/
def one28 : Int := 268435456

/-- `PI28`: π in s4.28 (R84). -/
def pi28 : Int := 843314857

/-- `TWO_PI28`: the LFO's wrap amount (R84). -/
def twoPi28 : Int := 1686629714

/-- `INV_PI32`: 1/π in u0.32 (R84). -/
def invPi32 : Int := 1367130551

/-- `THIRD16`: 1/3 in u0.16 (R84). -/
def third16 : Int := 21845

/-- `RCP12_34`: 1/12 scaled by 2^34 (R84). -/
def rcp12 : Int := 1431655765

/-- `N2F_C0`: log2 of the frequency of note 0, s5.27 (R84). -/
def n2fC0 : Int := 406862214

/-- `SHAPE_MAX` as Scalar (R84). -/
def shapeMax : Int := 0xF000

/-- `R_MAX` as Scalar (R84). -/
def resMax : Int := 0xF000

/-- `GATE_THRESHOLD` as Sample (R84). -/
def gateThreshold : Int := 2048

/-- `ATTACK_THRESHOLD` as EnvSignal (R84). -/
def attackThreshold : Int := 526131200

/-- `SIGNAL_MIN` as EnvSignal (R84). -/
def signalMin : Int := 32768

/-- `SIGNAL_MAX` as EnvSignal (R84). -/
def signalMax : Int := 536862720

/-- `PRNG_SCRAMBLE` (R84). -/
def prngScramble : Prng := 0x9E3779B97F4A7C15

end Sys2Proof.Machine
end

