-- ==== Sys2Proof/Machine/Envelope.lean ====
section
/-! DEFINITION. The ENV units (`43_envelope.md`). -/

namespace Sys2Proof.Machine

/-- The gate test of `env_transition` (R187), made first. A gate at the threshold is low. -/
def envGateTest (st : EnvState) (gate : Int) : EnvState :=
  if gate ≤ gateThreshold then .release
  else match st with
    | .release => .attack
    | .attack => .attack
    | .decay => .decay

/-- `env_transition(state, gate, last)` (R187): the Attack-to-Decay test on the state the gate test produced. -/
def envTransition (st : EnvState) (gate last : Int) : EnvState :=
  match envGateTest st gate with
  | .release => .release
  | .attack => if attackThreshold < last then .decay else .attack
  | .decay => .decay

/-- The setpoint of a state (R187). -/
def envSetpoint (st : EnvState) (sustain : Int) : Int :=
  match st with
  | .release => signalMin
  | .attack => signalMax
  | .decay => clamp (shl sustain 13) signalMin signalMax

/-- The rise time of a state (R187). -/
def envRise (st : EnvState) (e : EnvUnit) : Int :=
  match st with
  | .release => u16 e.release
  | .attack => u16 e.attack
  | .decay => u16 e.decay

/-- `env_smooth` (R188). -/
def envSmooth (rate : Word) (rise spPrev sp last : Int) : Int :=
  let k := rise * halfSr rate + 4096
  let num := spPrev + sp - 2 * last
  let delta := tdiv (shl num 12) k
  clamp (last + delta) signalMin signalMax

/-- `ENVe_OUT` of an envelope signal (R189). -/
def envOut (last : Int) : Int := satU16 (asr last 13)

/-- The registers of an envelope after one sample (R190). -/
def envStep (rate : Word) (e : EnvUnit) : EnvUnit :=
  let last := s32 e.last
  let st' := envTransition e.state (s16 e.gate) last
  let sp := envSetpoint st' (u16 e.sustain)
  let last' := envSmooth rate (envRise st' e) (s32 e.spPrev) sp last
  { e with state := st', last := to32 last', spPrev := to32 sp, out := to16 (envOut last') }

/-- `ENV.NEXT` on an envelope that exists, in a context (R190). -/
def envNextOn (e : Fin 4) (s : State) : State := setEnv e (envStep s.ctxRate (getEnv e s)) s

/-- `ENV.NEXT e` (R190). -/
def execEnvNext (u : UnitIndex) (s : State) : Host.Outcome State Fault Refusal :=
  .next (onUnit 4 (.envNext u) u (fun e => inContext (.envNext u) (envNextOn e)) s)

/-- An envelope at its documented default, gate and parameters kept (R191). -/
def envDefault (e : EnvUnit) : EnvUnit :=
  { e with state := .release, last := to32 signalMin, spPrev := to32 signalMin, out := 0x0004 }

/-- `ENV.RST e` (R191). -/
def execEnvRst (u : UnitIndex) (s : State) : Host.Outcome State Fault Refusal :=
  .next (onUnit 4 (.envRst u) u (fun e s => setEnv e (envDefault (getEnv e s)) s) s)

end Sys2Proof.Machine
end

