-- ==== Sys2Proof/Machine/MathLib.lean ====
section
/-! DEFINITION. The pure functions of the math library (`40_math.md` R121 to R128), on exact integers. The MATH commands
and the OSC, FILT and LFO units all use these (R120). The accuracy figures of R129 and `21_rom_tables.md` R85 are facts
about `sinpi`, `exp2`, `n2f`, `rcpm`, `rcp1p` and `rcp1m` below, derived from their definitions. -/

namespace Sys2Proof.Machine

/-- `sinpi(x)`: sine of π·X, s4.28 half-turns to s2.14 (R121). -/
def sinpi (x : Int) : Int :=
  let u := (x + 2 ^ 28) % 2 ^ 29
  let i := asr u 21
  let f := u % 2 ^ 21
  sinTab i + asr ((sinTab (i + 1) - sinTab i) * f) 21

/-- `cospi(x)` (R122). -/
def cospi (x : Int) : Int := sinpi (x + 2 ^ 27)

/-- `tan_r(x)`: x + x³/3 in s4.28, saturating (R123). -/
def tanR (x : Int) : Int :=
  let x2 := asr (x * x) 28
  let x3 := asr (x2 * x) 28
  satS32 (x + asr (x3 * third16) 16)

/-- The mantissa step of `exp2`: 2 to the fraction, u2.30 (R124). -/
def exp2Mantissa (xf : Int) : Int :=
  let j := asr xf 21
  let r := xf % 2 ^ 21
  exp2Tab j + asr ((exp2Tab (j + 1) - exp2Tab j) * r) 21

/-- `exp2(x)`: s5.27 to u14.18, saturating (R124). -/
def exp2 (x : Int) : Int :=
  let xi := asr x 27
  let y := exp2Mantissa (x % 2 ^ 27)
  let sh := 12 - xi
  satU32 (if 0 ≤ sh then asr y sh.toNat else shl y (-sh).toNat)

/-- `n2f(n)`: note u7.9 to frequency u14.18 (R125). -/
def n2f (n : Int) : Int := exp2 (asr (n * rcp12) 16 + n2fC0)

/-- `rcpm(f)`: the reciprocal of the mantissa 1 + f/65536, u1.16 (R126). -/
def rcpm (f : Int) : Int :=
  let j := asr f 9
  let r := f % 512
  rcpTab j + asr ((rcpTab (j + 1) - rcpTab j) * r) 9

/-- `rcp1p(k)`: the mantissa and exponent of 1/(1+K), k in u4.28 (R127). -/
def rcp1p (k : Int) : Int × Nat :=
  let v := k + 2 ^ 28
  let e := bitlen v - 29
  let f28 := asr v e - 2 ^ 28
  (rcpm (asr f28 12), e)

/-- `rcp1m(x)`: the mantissa and exponent of 1/(1−X), x in u0.16 (R128). -/
def rcp1m (x : Int) : Int × Nat :=
  let v := 65536 - x
  let z := 17 - bitlen v
  let f := shl v z - 65536
  (rcpm f, z)

end Sys2Proof.Machine
end

