-- ==== Sys2Proof/Machine/Filter.lean ====
section
/-! DEFINITION. The FILT unit (`42_filter.md`). -/

namespace Sys2Proof.Machine

/-- The coefficients of one sample (R171). -/
structure FiltCoeffs where
  /-- `rr`, the damping, u1.16 -/
  rr : Int
  /-- `g`, the prewarped gain, s4.28 -/
  g : Int
  /-- `M`, the mantissa of 1/denom -/
  m : Int
  /-- `e`, the exponent of 1/denom -/
  e : Nat
deriving DecidableEq, Repr

/-- `xg` of R171: π·f_c/sr in s4.28 radians. -/
def filtAngle (rate : Word) (cutoff : Int) : Int := asr (n2f cutoff * k1 rate) 19

/-- `k` of R171: denom − 1 = g² + 2·r·g, u4.28. -/
def filtDenom (g rr : Int) : Int := satU32 (asr (g * g) 28 + asr (g * rr) 15)

/-- `filt_coeffs(rate, cutoff, res)` (R171). -/
def filtCoeffs (rate : Word) (cutoff res : Int) : FiltCoeffs :=
  let rr := 65536 - min res resMax
  let g := tanR (filtAngle rate cutoff)
  let d := rcp1p (filtDenom g rr)
  { rr := rr, g := g, m := d.1, e := d.2 }

/-- The registers of the filter after one sample (R172): `high` from the old feedback, `low` from the new `band`. -/
def filtStep (c : FiltCoeffs) (f : FiltUnit) : FiltUnit :=
  let zl := s32 f.zLow
  let zb := s32 f.zBand
  let a := shl c.rr 13 + c.g
  let x20 := shl (s16 f.input) 8
  let num := satS32 (x20 - asr (a * zb) 28 - zl)
  let high := asr (num * c.m) (16 + c.e)
  let bg := asr (c.g * high) 28
  let band := satS32 (bg + zb)
  let zb' := satS32 (band + bg)
  let lg := asr (c.g * band) 28
  let low := satS32 (lg + zl)
  let zl' := satS32 (low + lg)
  { f with zBand := to32 zb', zLow := to32 zl',
           low := to16 (satS16 (asr low 8)), band := to16 (satS16 (asr band 8)), high := to16 (satS16 (asr high 8)) }

/-- `FILT.NEXT` in a context (R172). -/
def filtNextOn (s : State) : State :=
  { s with filt := filtStep (filtCoeffs s.ctxRate (u16 s.filt.cutoff) (u16 s.filt.res)) s.filt }

/-- `FILT.NEXT` (R172). -/
def execFiltNext (s : State) : Host.Outcome State Fault Refusal := .next (inContext .filtNext filtNextOn s)

/-- The filter at its documented default, its input and parameters kept (R173). -/
def filtDefault (f : FiltUnit) : FiltUnit := { f with zLow := 0, zBand := 0, low := 0, band := 0, high := 0 }

/-- `FILT.RST` (R173). -/
def execFiltRst (s : State) : Host.Outcome State Fault Refusal := .next { s with filt := filtDefault s.filt }

end Sys2Proof.Machine
end

