-- ==== Sys2Proof/Machine/Oscillator.lean ====
section
/-! DEFINITION. The OSC units (`41_oscillator.md`). The stored phase is the warped phase in half-turns (R141, conflicts
C1 and C2). -/

namespace Sys2Proof.Machine

/-- `wave_sin(q)` (R146). -/
def waveSin (q : Int) : Int := asr (sinpi q) 2

/-- `wave_square(q)` (R146). -/
def waveSquare (q : Int) : Int := if 0 ≤ q then 4096 else -4096

/-- `wave_saw(q)` (R146). -/
def waveSaw (q : Int) : Int := satS16 (asr q 16)

/-- `wave_tri(q)` (R146). -/
def waveTri (q : Int) : Int := satS16 (asr (2 ^ 28 - 2 * |q|) 16)

/-- `n_eff`, the note plus the tune, saturated to the Note range (R142). -/
def effNote (note : Note) (tune : NoteOffset) : Int := satU16 (u16 note + s16 tune)

/-- `d`: the increment per sample of a note, s4.28 half-turns (R143). -/
def phaseStep (rate : Word) (nEff : Int) : Int := asr (n2f nEff * k2 rate) 20

/-- `s`: the shape clamped to its ceiling (R144). -/
def shapeUsed (shape : Scalar) : Int := min (u16 shape) shapeMax

/-- What one sample's advance is computed with (R145): the clamped shape, the two reciprocals and the two rates. -/
structure OscRates where
  /-- `s` (R144) -/
  s : Int
  /-- `M1p`, the mantissa of 1/(1+s) -/
  m1p : Int
  /-- `M1m`, the mantissa of 1/(1−s) -/
  m1m : Int
  /-- `z`, the exponent of 1/(1−s) -/
  z : Nat
  /-- `d_neg`, the increment while the phase is negative -/
  dNeg : Int
  /-- `d_pos`, the increment while the phase is non-negative -/
  dPos : Int
deriving DecidableEq, Repr

/-- The two rates of a step `d` and a clamped shape `s` (R145). -/
def oscRates (d s : Int) : OscRates :=
  let m1p := rcpm s
  let r := rcp1m s
  { s := s, m1p := m1p, m1m := r.1, z := r.2,
    dNeg := asr (d * m1p) 16, dPos := satS32 (asr (d * r.1) (16 - r.2)) }

/-- R148 (b), the residual past the ascending zero crossing, rescaled by (1+s)/(1−s). -/
def rescaleUp (r : OscRates) (new : Int) : Int := satS32 (asr (asr (new * (65536 + r.s)) 16 * r.m1m) (16 - r.z))

/-- R148 (d), the wrap past +1: the residual rescaled by (1−s)/(1+s) and continued from −1. -/
def wrapTop (r : OscRates) (new : Int) : Int :=
  if 2 ^ 28 ≤ new then -(2 ^ 28) + asr (asr ((new - 2 ^ 28) * (65536 - r.s)) 16 * r.m1p) 16 else new

/-- R148 (e), the final reduction into [−2^28, 2^28). -/
def reducePhase (new : Int) : Int := (new + 2 ^ 28) % 2 ^ 29 - 2 ^ 28

/-- R148 (b), what a `Primary` reports of an ascending crossing at `new`; any other sync input reports nothing. -/
def crossingReport (r : OscRates) (new : Int) : OscSync → OscSync
  | .primary => .secondary (to16 (satU16 (fdiv (shl new 16) r.dNeg)))
  | .off => .off
  | .secondary _ => .off

/-- R148 (a), (b), (c): the phase before the wrap, and the sync output. -/
def advanceRaw (r : OscRates) (q : Int) (sync : OscSync) : Int × OscSync :=
  match sync with
  | .secondary c => (satS32 (asr (u16 c * r.dPos) 16), .off)
  | .off | .primary =>
      if q < 0 then
        let new := q + r.dNeg
        if 0 ≤ new then (rescaleUp r new, crossingReport r new sync) else (new, .off)
      else (satS32 (q + r.dPos), .off)

/-- `advance(q, sync_in)` (R148). -/
def advance (r : OscRates) (q : Int) (sync : OscSync) : Int × OscSync :=
  let a := advanceRaw r q sync
  (reducePhase (wrapTop r a.1), a.2)

/-- `osc_sample` (R149) on the registers of one oscillator: the four results from the phase before the advance, the new
phase, and the sync output. -/
def oscSample (rate : Word) (note : Note) (sync : OscSync) (o : OscUnit) : OscUnit × OscSync :=
  let r := oscRates (phaseStep rate (effNote note o.tune)) (shapeUsed o.shape)
  let q := s32 o.phase
  let a := advance r q sync
  ({ o with sin := to16 (waveSin q), sq := to16 (waveSquare q), tri := to16 (waveTri q), saw := to16 (waveSaw q),
            phase := to32 a.1 }, a.2)

/-- The registers of an oscillator after a sample and the write of `OSCu_SYNC_OUT` (R150, R151). -/
def oscStep (rate : Word) (note : Note) (sync : OscSync) (o : OscUnit) : OscUnit :=
  let r := oscSample rate note sync o
  { r.1 with syncOut := encodeSync r.2 }

/-- `OSC.NEXT` on an oscillator that exists, in a context (R150). -/
def oscNextOn (u : Fin 2) (s : State) : State :=
  let o := getOsc u s
  setOsc u (oscStep s.ctxRate o.note (decodeSync o.syncIn) o) s

/-- `OSC.NEXT u` (R150). -/
def execOscNext (u : UnitIndex) (s : State) : Host.Outcome State Fault Refusal :=
  .next (onUnit 2 (.oscNext u) u (fun v => inContext (.oscNext u) (oscNextOn v)) s)

/-- `OSC.PAIR` in a context (R151): oscillator 0 first, then oscillator 1 with its report, both on `OSC0_NOTE`. -/
def oscPairOn (sync : Bool) (s : State) : State :=
  let note := s.osc0.note
  let in0 := if sync then OscSync.primary else OscSync.off
  let so0 := (oscSample s.ctxRate note in0 s.osc0).2
  let in1 := if sync then so0 else OscSync.off
  { s with osc0 := oscStep s.ctxRate note in0 s.osc0, osc1 := oscStep s.ctxRate note in1 s.osc1 }

/-- `OSC.PAIR sync` (R151). -/
def execOscPair (sync : Bool) (s : State) : Host.Outcome State Fault Refusal :=
  .next (inContext (.oscPair sync) (oscPairOn sync) s)

/-- An oscillator at its documented default, its inputs and parameters kept (R152). -/
def oscDefault (o : OscUnit) : OscUnit :=
  { o with phase := 0, sin := 0, sq := 0, tri := 0, saw := 0, syncOut := 0 }

/-- `OSC.RST u` (R152). -/
def execOscRst (u : UnitIndex) (s : State) : Host.Outcome State Fault Refusal :=
  .next (onUnit 2 (.oscRst u) u (fun v s => setOsc v (oscDefault (getOsc v s)) s) s)

end Sys2Proof.Machine
end

