-- ==== Sys2Proof/Machine/Lfo.lean ====
section
/-! DEFINITION. The LFO units and their generator (`44_lfo.md`). The phase is in radians (conflict C1). -/

namespace Sys2Proof.Machine

/-- `prng_step(P)`: a 64-bit xorshift (R203). -/
def prngStep (p : Prng) : Prng :=
  let a := p ^^^ (p <<< 13)
  let b := a ^^^ (a >>> 7)
  b ^^^ (b <<< 17)

/-- The sample of a generator state, its top 16 bits as an IScalar (R204). -/
def prngSample (p : Prng) : IScalar := p.extractLsb' 48 16

/-- `seed_state(S)` (R205). -/
def seedState (seed : Prng) : Prng :=
  let p0 := seed ^^^ prngScramble
  if p0 = 0 then prngScramble else p0

/-- The 64-bit seed of an LFO (R206). -/
def lfoSeedOf (l : LfoUnit) : Prng := l.seedHi ++ l.seedLo

/-- The 64-bit generator state of an LFO (`10_state.md` R33). -/
def lfoPrng (l : LfoUnit) : Prng := l.prngHi ++ l.prngLo

/-- The LFO with its generator state replaced (R206, R210). -/
def setPrng (p : Prng) (l : LfoUnit) : LfoUnit :=
  { l with prngHi := p.extractLsb' 32 32, prngLo := p.extractLsb' 0 32 }

/-- `gate_now`: the gate boolean of this sample (R202). -/
def lfoGateNow (l : LfoUnit) : Bool := decide (gateThreshold < s16 l.gate)

/-- The phase after the retrigger step (R202). -/
def lfoStartPhase (l : LfoUnit) : Int :=
  if optRetrig l.options && (lfoGateNow l && !l.prevGate) then 0 else s32 l.phase

/-- `q`: radians to half-turns (R211). -/
def lfoHalfTurns (phase : Int) : Int := clamp (asr (phase * invPi32) 32) (-(2 ^ 28)) (2 ^ 28 - 1)

/-- `lfo_wave(wave, q, r0, r1)` (R212). The glide parameter follows conflict C3. -/
def lfoWave (wave : LfoWave) (q r0 r1 : Int) : Int :=
  match wave with
  | .sine => waveSin q
  | .square => waveSquare q
  | .triangle => waveTri q
  | .saw => waveSaw q
  | .sampleHold => asr r0 3
  | .sampleGlide =>
      let t := clamp (asr (q + 2 ^ 28) 13) 0 65535
      asr (r1 + asr ((r0 - r1) * t) 16) 3

/-- Unipolar and depth (R213). -/
def lfoScale (bipolar : Bool) (v depth : Int) : Int :=
  let v := if bipolar then v else asr (v + 4096) 1
  asr (v * depth) 16

/-- `d`: the phase increment, radians per sample (R207). -/
def lfoStepSize (rate : Word) (freq : Int) : Int := asr (freq * k1 rate) 11

/-- Advance from the phase `phase`: the wrap past +π shifts the random samples and steps the generator (R210, R214). -/
def lfoAdvance (rate : Word) (phase : Int) (l : LfoUnit) : LfoUnit :=
  let ph := phase + lfoStepSize rate (u16 l.freq)
  if pi28 ≤ ph then
    let p' := prngStep (lfoPrng l)
    setPrng p' { l with phase := to32 (ph - twoPi28), rand1 := l.rand0, rand0 := prngSample p' }
  else { l with phase := to32 ph }

/-- The output of a sample whose phase, after the retrigger step, is `phase` (R210). -/
def lfoOutput (phase : Int) (l : LfoUnit) : Int :=
  lfoScale (optBipolar l.options)
    (lfoWave (optWave l.options) (lfoHalfTurns phase) (s16 l.rand0) (s16 l.rand1)) (u16 l.depth)

/-- The registers of an LFO after one sample (R210). -/
def lfoStep (rate : Word) (l : LfoUnit) : LfoUnit :=
  let phase := lfoStartPhase l
  lfoAdvance rate phase { l with out := to16 (lfoOutput phase l), prevGate := lfoGateNow l }

/-- `LFO.NEXT` on an LFO that exists, in a context (R210). -/
def lfoNextOn (l : Fin 2) (s : State) : State := setLfo l (lfoStep s.ctxRate (getLfo l s)) s

/-- `LFO.NEXT l` (R210). -/
def execLfoNext (u : UnitIndex) (s : State) : Host.Outcome State Fault Refusal :=
  .next (onUnit 2 (.lfoNext u) u (fun l => inContext (.lfoNext u) (lfoNextOn l)) s)

/-- An LFO constructed from its seed registers (R206). -/
def lfoConstruct (l : LfoUnit) : LfoUnit :=
  setPrng (seedState (lfoSeedOf l))
    { l with phase := 0, prevGate := false, rand0 := 0, rand1 := 0, out := 0 }

/-- `LFO.SEED l` (R206). -/
def execLfoSeed (u : UnitIndex) (s : State) : Host.Outcome State Fault Refusal :=
  .next (onUnit 2 (.lfoSeed u) u (fun l s => setLfo l (lfoConstruct (getLfo l s)) s) s)

end Sys2Proof.Machine
end

