-- ==== Sys2Proof/Machine/MathUnit.lean ====
section
/-! DEFINITION. The MATH commands (`40_math.md` R120 to R128): argument in `MATH_ARG`, result in `MATH_RES`, exponent in
`MATH_EXP`. They need no context and cannot fail (R120). -/

namespace Sys2Proof.Machine

/-- What every MATH command writes (R120). -/
def mathResult (res exp : Int) (s : State) : State := { s with mathRes := to32 res, mathExp := to32 exp }

/-- `MATH_ARG[15:0]` (R125, R128: "the upper 16 bits of MATH_ARG are ignored"). -/
def mathArgLow (s : State) : Int := u16 (s.mathArg.extractLsb' 0 16)

/-- `SINPI` (R121). -/
def execSinpi (s : State) : Host.Outcome State Fault Refusal := .next (mathResult (sinpi (s32 s.mathArg)) 0 s)

/-- `COSPI` (R122). -/
def execCospi (s : State) : Host.Outcome State Fault Refusal := .next (mathResult (cospi (s32 s.mathArg)) 0 s)

/-- `TAN` (R123). -/
def execTan (s : State) : Host.Outcome State Fault Refusal := .next (mathResult (tanR (s32 s.mathArg)) 0 s)

/-- `EXP2` (R124). -/
def execExp2 (s : State) : Host.Outcome State Fault Refusal := .next (mathResult (exp2 (s32 s.mathArg)) 0 s)

/-- `N2F` (R125). -/
def execN2f (s : State) : Host.Outcome State Fault Refusal := .next (mathResult (n2f (mathArgLow s)) 0 s)

/-- `RCP1P` (R127): `MATH_EXP` is minus the exponent. -/
def execRcp1p (s : State) : Host.Outcome State Fault Refusal :=
  let r := rcp1p (u32 s.mathArg)
  .next (mathResult r.1 (-(r.2 : Int)) s)

/-- `RCP1M` (R128). -/
def execRcp1m (s : State) : Host.Outcome State Fault Refusal :=
  let r := rcp1m (mathArgLow s)
  .next (mathResult r.1 (r.2 : Int) s)

end Sys2Proof.Machine
end

