-- ==== Sys2Proof/Machine/System.lean ====
section
/-! DEFINITION. The system operations (`45_system.md`): `NOP` and context construction. -/

namespace Sys2Proof.Machine

/-- `NOP` (R221): nothing. -/
def execNop (s : State) : Host.Outcome State Fault Refusal := .next s

/-- The checked write of `CTX_RATE` (R224): a context, or `RateError` with the refused rate and the old context kept. -/
def writeCtxRate (d : Word) (s : State) : State :=
  if d = rate44100 ∨ d = rate48000 then { s with ctxRate := d, status := setCtxValid s.status }
  else report .rate d s

end Sys2Proof.Machine
end

