-- ==== Sys2Proof/Machine/Dispatch.lean ====
section
/-! DEFINITION. The meaning of every command, one arm per row of the opcode table. -/

namespace Sys2Proof.Machine

def exec (i : Instr) (s : State) : Host.Outcome State Fault Refusal :=
  match i with
  | .nop => Sys2Proof.Machine.execNop s
  | .sinpi => Sys2Proof.Machine.execSinpi s
  | .cospi => Sys2Proof.Machine.execCospi s
  | .tan => Sys2Proof.Machine.execTan s
  | .exp2 => Sys2Proof.Machine.execExp2 s
  | .rcp1p => Sys2Proof.Machine.execRcp1p s
  | .rcp1m => Sys2Proof.Machine.execRcp1m s
  | .n2f => Sys2Proof.Machine.execN2f s
  | .oscNext u => Sys2Proof.Machine.execOscNext u s
  | .oscPair sync => Sys2Proof.Machine.execOscPair sync s
  | .oscRst u => Sys2Proof.Machine.execOscRst u s
  | .filtNext => Sys2Proof.Machine.execFiltNext s
  | .filtRst => Sys2Proof.Machine.execFiltRst s
  | .envNext u => Sys2Proof.Machine.execEnvNext u s
  | .envRst u => Sys2Proof.Machine.execEnvRst u s
  | .lfoNext u => Sys2Proof.Machine.execLfoNext u s
  | .lfoSeed u => Sys2Proof.Machine.execLfoSeed u s

end Sys2Proof.Machine
end

