-- ==== Sys2Proof/Machine/RegMap.lean ====
section
/-! DEFINITION. The register map (`10_state.md` R27): register numbers, access rights, widths, and the one place where a
register is read or written by number. -/

namespace Sys2Proof.Machine

/-- The registers of an oscillator, in the order of their offsets 0 to 9 (R27). -/
inductive OscReg where
  | note | tune | shape | syncIn | sin | sq | tri | saw | syncOut | phase
deriving DecidableEq, Repr

/-- The registers of the filter, in the order of their offsets 0 to 7 (R27). -/
inductive FiltReg where
  | input | cutoff | res | low | band | high | zLow | zBand
deriving DecidableEq, Repr

/-- The registers of an envelope, in the order of their offsets 0 to 8 (R27). -/
inductive EnvReg where
  | gate | attack | decay | sustain | release | out | state | last | spPrev
deriving DecidableEq, Repr

/-- The registers of an LFO, in the order of their offsets 0 to 0xC (R27). -/
inductive LfoReg where
  | gate | freq | depth | options | out | phase | prevGate | rand0 | rand1 | seedLo | seedHi | prngLo | prngHi
deriving DecidableEq, Repr

/-- The 97 registers (R27, R35). -/
inductive Reg where
  | ctxRate | status | errInfo | cmd | mathArg | mathRes | mathExp
  | osc (u : Fin 2) (r : OscReg)
  | filt (r : FiltReg)
  | env (e : Fin 4) (r : EnvReg)
  | lfo (l : Fin 2) (r : LfoReg)
deriving DecidableEq, Repr

/-- The access column of R27. -/
inductive Access where
  /-- `RW`: read and written by the host. -/
  | rw
  /-- `RW (checked)`: `CTX_RATE` only (R24). -/
  | rwChecked
  /-- `RO`: read-only to the host. -/
  | ro
  /-- `WO`: `CMD` only. -/
  | wo
deriving DecidableEq, Repr

/-- The global and MATH registers at 0x00 to 0x06 (R27). -/
def sysRegAt (offset : Nat) : Option Reg :=
  match offset with
  | 0 => some .ctxRate
  | 1 => some .status
  | 2 => some .errInfo
  | 3 => some .cmd
  | 4 => some .mathArg
  | 5 => some .mathRes
  | 6 => some .mathExp
  | _ => none

/-- The oscillator register at an offset (R27). -/
def oscRegAt (offset : Nat) : Option OscReg :=
  match offset with
  | 0 => some .note
  | 1 => some .tune
  | 2 => some .shape
  | 3 => some .syncIn
  | 4 => some .sin
  | 5 => some .sq
  | 6 => some .tri
  | 7 => some .saw
  | 8 => some .syncOut
  | 9 => some .phase
  | _ => none

/-- The filter register at an offset (R27). -/
def filtRegAt (offset : Nat) : Option FiltReg :=
  match offset with
  | 0 => some .input
  | 1 => some .cutoff
  | 2 => some .res
  | 3 => some .low
  | 4 => some .band
  | 5 => some .high
  | 6 => some .zLow
  | 7 => some .zBand
  | _ => none

/-- The envelope register at an offset (R27). -/
def envRegAt (offset : Nat) : Option EnvReg :=
  match offset with
  | 0 => some .gate
  | 1 => some .attack
  | 2 => some .decay
  | 3 => some .sustain
  | 4 => some .release
  | 5 => some .out
  | 6 => some .state
  | 7 => some .last
  | 8 => some .spPrev
  | _ => none

/-- The LFO register at an offset (R27). -/
def lfoRegAt (offset : Nat) : Option LfoReg :=
  match offset with
  | 0 => some .gate
  | 1 => some .freq
  | 2 => some .depth
  | 3 => some .options
  | 4 => some .out
  | 5 => some .phase
  | 6 => some .prevGate
  | 7 => some .rand0
  | 8 => some .rand1
  | 9 => some .seedLo
  | 10 => some .seedHi
  | 11 => some .prngLo
  | 12 => some .prngHi
  | _ => none

/-- The register a number names, none where it is unmapped (R27: unit registers at base + offset, one 16-register page
per unit). -/
def regAt (a : RegNum) : Option Reg :=
  let offset := a.toNat % 16
  match a.toNat / 16 with
  | 0x0 => sysRegAt offset
  | 0x1 => (oscRegAt offset).map (.osc 0)
  | 0x2 => (oscRegAt offset).map (.osc 1)
  | 0x3 => (filtRegAt offset).map .filt
  | 0x4 => (envRegAt offset).map (.env 0)
  | 0x5 => (envRegAt offset).map (.env 1)
  | 0x6 => (envRegAt offset).map (.env 2)
  | 0x7 => (envRegAt offset).map (.env 3)
  | 0x8 => (lfoRegAt offset).map (.lfo 0)
  | 0x9 => (lfoRegAt offset).map (.lfo 1)
  | _ => none

/-- The access right of a register (R27). -/
def Reg.access : Reg → Access
  | .ctxRate => .rwChecked
  | .status => .ro
  | .errInfo => .ro
  | .cmd => .wo
  | .mathArg => .rw
  | .mathRes => .ro
  | .mathExp => .ro
  | .osc _ r => match r with
    | .note => .rw
    | .tune => .rw
    | .shape => .rw
    | .syncIn => .rw
    | .sin => .ro
    | .sq => .ro
    | .tri => .ro
    | .saw => .ro
    | .syncOut => .ro
    | .phase => .ro
  | .filt r => match r with
    | .input => .rw
    | .cutoff => .rw
    | .res => .rw
    | .low => .ro
    | .band => .ro
    | .high => .ro
    | .zLow => .ro
    | .zBand => .ro
  | .env _ r => match r with
    | .gate => .rw
    | .attack => .rw
    | .decay => .rw
    | .sustain => .rw
    | .release => .rw
    | .out => .ro
    | .state => .ro
    | .last => .ro
    | .spPrev => .ro
  | .lfo _ r => match r with
    | .gate => .rw
    | .freq => .rw
    | .depth => .rw
    | .options => .rw
    | .out => .ro
    | .phase => .ro
    | .prevGate => .ro
    | .rand0 => .ro
    | .rand1 => .ro
    | .seedLo => .rw
    | .seedHi => .rw
    | .prngLo => .ro
    | .prngHi => .ro

/-- Column *w* of R27: the number of significant low bits. -/
def Reg.width : Reg → Nat
  | .ctxRate => 32
  | .status => 13
  | .errInfo => 32
  | .cmd => 32
  | .mathArg => 32
  | .mathRes => 32
  | .mathExp => 32
  | .osc _ r => match r with
    | .note => 16
    | .tune => 16
    | .shape => 16
    | .syncIn => 18
    | .sin => 16
    | .sq => 16
    | .tri => 16
    | .saw => 16
    | .syncOut => 18
    | .phase => 32
  | .filt r => match r with
    | .input => 16
    | .cutoff => 16
    | .res => 16
    | .low => 16
    | .band => 16
    | .high => 16
    | .zLow => 32
    | .zBand => 32
  | .env _ r => match r with
    | .gate => 16
    | .attack => 16
    | .decay => 16
    | .sustain => 16
    | .release => 16
    | .out => 16
    | .state => 2
    | .last => 32
    | .spPrev => 32
  | .lfo _ r => match r with
    | .gate => 16
    | .freq => 16
    | .depth => 16
    | .options => 16
    | .out => 16
    | .phase => 32
    | .prevGate => 1
    | .rand0 => 16
    | .rand1 => 16
    | .seedLo => 32
    | .seedHi => 32
    | .prngLo => 32
    | .prngHi => 32

/-- A 16-bit register as the host reads it: zeros above, no sign extension (R28). -/
def zext16 (v : BitVec 16) : Word := v.setWidth 32

/-- An oscillator's register as the host reads it (R28). -/
def readOscReg (o : OscUnit) : OscReg → Word
  | .note => zext16 o.note
  | .tune => zext16 o.tune
  | .shape => zext16 o.shape
  | .syncIn => o.syncIn.setWidth 32
  | .sin => zext16 o.sin
  | .sq => zext16 o.sq
  | .tri => zext16 o.tri
  | .saw => zext16 o.saw
  | .syncOut => o.syncOut.setWidth 32
  | .phase => o.phase

/-- A filter register as the host reads it (R28). -/
def readFiltReg (f : FiltUnit) : FiltReg → Word
  | .input => zext16 f.input
  | .cutoff => zext16 f.cutoff
  | .res => zext16 f.res
  | .low => zext16 f.low
  | .band => zext16 f.band
  | .high => zext16 f.high
  | .zLow => f.zLow
  | .zBand => f.zBand

/-- An envelope's register as the host reads it (R28, `30_encoding.md` R104). -/
def readEnvReg (e : EnvUnit) : EnvReg → Word
  | .gate => zext16 e.gate
  | .attack => zext16 e.attack
  | .decay => zext16 e.decay
  | .sustain => zext16 e.sustain
  | .release => zext16 e.release
  | .out => zext16 e.out
  | .state => (envStateCode e.state).setWidth 32
  | .last => e.last
  | .spPrev => e.spPrev

/-- An LFO's register as the host reads it (R28). -/
def readLfoReg (l : LfoUnit) : LfoReg → Word
  | .gate => zext16 l.gate
  | .freq => zext16 l.freq
  | .depth => zext16 l.depth
  | .options => zext16 l.options
  | .out => zext16 l.out
  | .phase => l.phase
  | .prevGate => (BitVec.ofBool l.prevGate).setWidth 32
  | .rand0 => zext16 l.rand0
  | .rand1 => zext16 l.rand1
  | .seedLo => l.seedLo
  | .seedHi => l.seedHi
  | .prngLo => l.prngLo
  | .prngHi => l.prngHi

/-- `reg[r]` as the host reads it: the stored bits with zeros above (R28). `CMD` holds no value (R27); its read is
refused before this (`20_memory.md` R61) and is 0 here. -/
def readReg (r : Reg) (s : State) : Word :=
  match r with
  | .ctxRate => s.ctxRate
  | .status => s.status.setWidth 32
  | .errInfo => s.errInfo
  | .cmd => 0
  | .mathArg => s.mathArg
  | .mathRes => s.mathRes
  | .mathExp => s.mathExp
  | .osc u r => readOscReg (getOsc u s) r
  | .filt r => readFiltReg s.filt r
  | .env e r => readEnvReg (getEnv e s) r
  | .lfo l r => readLfoReg (getLfo l s) r

/-- A host write to an oscillator's `RW` register: the low *w* bits (R28). Its `RO` registers are kept. -/
def writeOscReg (r : OscReg) (d : Word) (o : OscUnit) : OscUnit :=
  match r with
  | .note => { o with note := d.setWidth 16 }
  | .tune => { o with tune := d.setWidth 16 }
  | .shape => { o with shape := d.setWidth 16 }
  | .syncIn => { o with syncIn := d.setWidth 18 }
  | .sin => o
  | .sq => o
  | .tri => o
  | .saw => o
  | .syncOut => o
  | .phase => o

/-- A host write to an `RW` register of the filter: the low *w* bits (R28). Its `RO` registers are kept. -/
def writeFiltReg (r : FiltReg) (d : Word) (f : FiltUnit) : FiltUnit :=
  match r with
  | .input => { f with input := d.setWidth 16 }
  | .cutoff => { f with cutoff := d.setWidth 16 }
  | .res => { f with res := d.setWidth 16 }
  | .low => f
  | .band => f
  | .high => f
  | .zLow => f
  | .zBand => f

/-- A host write to an envelope's `RW` register: the low *w* bits (R28). Its `RO` registers are kept. -/
def writeEnvReg (r : EnvReg) (d : Word) (e : EnvUnit) : EnvUnit :=
  match r with
  | .gate => { e with gate := d.setWidth 16 }
  | .attack => { e with attack := d.setWidth 16 }
  | .decay => { e with decay := d.setWidth 16 }
  | .sustain => { e with sustain := d.setWidth 16 }
  | .release => { e with release := d.setWidth 16 }
  | .out => e
  | .state => e
  | .last => e
  | .spPrev => e

/-- A host write to an LFO's `RW` register: the low *w* bits (R28). Its `RO` registers are kept. -/
def writeLfoReg (r : LfoReg) (d : Word) (l : LfoUnit) : LfoUnit :=
  match r with
  | .gate => { l with gate := d.setWidth 16 }
  | .freq => { l with freq := d.setWidth 16 }
  | .depth => { l with depth := d.setWidth 16 }
  | .options => { l with options := d.setWidth 16 }
  | .out => l
  | .phase => l
  | .prevGate => l
  | .rand0 => l
  | .rand1 => l
  | .seedLo => { l with seedLo := d }
  | .seedHi => { l with seedHi := d }
  | .prngLo => l
  | .prngHi => l

/-- `reg[r] <- d[w-1:0]` for an `RW` register: storing is the only effect (`20_memory.md` R61). Registers that are not
`RW` are kept; `WR` never comes here with one. -/
def writeReg (r : Reg) (d : Word) (s : State) : State :=
  match r with
  | .ctxRate => s
  | .status => s
  | .errInfo => s
  | .cmd => s
  | .mathArg => { s with mathArg := d }
  | .mathRes => s
  | .mathExp => s
  | .osc u r => setOsc u (writeOscReg r d (getOsc u s)) s
  | .filt r => { s with filt := writeFiltReg r d s.filt }
  | .env e r => setEnv e (writeEnvReg r d (getEnv e s)) s
  | .lfo l r => setLfo l (writeLfoReg r d (getLfo l s)) s

end Sys2Proof.Machine
end

