-- ==== Sys2Proof/Machine/HostPort.lean ====
section
/-! DEFINITION. The host's transactions (`20_memory.md` R61): the write, the read, the performing of a command
(`45_system.md` R220), and the taking of the next event from the host's list (`10_state.md` R22). -/

namespace Sys2Proof.Machine

/-- `perform(c)`: what a write of the word `c` to `CMD` does (`45_system.md` R220). -/
def perform (c : Word) (s : State) : Host.Outcome State Fault Refusal :=
  match decode c with
  | .illegal _ => .next (report .cmd c s)
  | .badUnit _ => .next (report .unit c s)
  | .command i => exec i s

/-- `ERRINFO` of a refused write: `256 + a` (`60_exceptions.md` R241 row 5). -/
def writeInfo (a : RegNum) : Word := 0x100#32 ||| a.setWidth 32

/-- `ERRINFO` of a refused read: `a` (R241 row 5). -/
def readInfo (a : RegNum) : Word := a.setWidth 32

/-- `WR(a, d)` (`20_memory.md` R61, `60_exceptions.md` R243). -/
def hostWrite (a : RegNum) (d : Word) (s : State) : Host.Outcome State Fault Refusal :=
  match regAt a with
  | none => .next (report .addr (writeInfo a) s)
  | some r =>
      match r.access with
      | .ro => .next (report .addr (writeInfo a) s)
      | .wo => perform d s
      | .rwChecked => .next (writeCtxRate d s)
      | .rw => .next (writeReg r d s)

/-- The data word is returned to the host (`20_memory.md` R61; log entry 2). -/
def answer (d : Word) (s : State) : State := { s with answers := s.answers ++ [d] }

/-- `RD(a) -> d` (`20_memory.md` R61, `60_exceptions.md` R243). -/
def hostRead (a : RegNum) (s : State) : State :=
  match regAt a with
  | none => answer 0 (report .addr (readInfo a) s)
  | some r => if r.access = .wo then answer 0 (report .addr (readInfo a) s) else answer (readReg r s) s

/-- Hardware reset: every register at its reset value (`70_reset_and_hazards.md` R260). The host's coming events and
what it has been told are the host's and are kept (log entry 4). -/
def hardwareReset (s : State) : State := { State.reset with host := s.host, answers := s.answers }

/-- One event, on the state from whose list it has been taken. -/
def deliver (e : HostEvent) (s : State) : Host.Outcome State Fault Refusal :=
  match e with
  | .wr a d => hostWrite a d s
  | .rd a => .next (hostRead a s)
  | .hwReset => .next (hardwareReset s)
  | .otherHost => .refused .secondHost

/-- One step: the next event of the host's list is taken and performed as one atomic action (`20_memory.md` R64, R67).
With no event the block is idle and nothing changes (`10_state.md` R20; log entry 3). -/
def takeEvent (s : State) : Host.Outcome State Fault Refusal :=
  match s.host with
  | [] => .next s
  | e :: rest => deliver e { s with host := rest }

/-- The register number of `CMD` (`10_state.md` R27). -/
def cmdNum : RegNum := 0x03

/-- The state whose next event is the write of a table word to `CMD` (log entry 1). -/
def placeCommand (s : State) (nbits w : Nat) : State :=
  { s with host := .wr cmdNum (tableWord nbits w) :: s.host }

end Sys2Proof.Machine
end

