-- ==== Sys2Proof/Machine/Step.lean ====
section
/-! DEFINITION. One step of the machine: one host event (`20_memory.md` R61, R67). -/

namespace Sys2Proof.Machine

/-- One step (`10_state.md` R22, `20_memory.md` R67). -/
def step (s : State) : Host.Outcome State Fault Refusal := takeEvent s

/-- `s` with the instruction whose bits are `w` as the very next thing the host gives the block: a write of that word to
`CMD`, in front of the events to come. Nothing else changes (log entry 1). -/
def State.withFetchWord (s : State) (nbits w : Nat) : State := placeCommand s nbits w

end Sys2Proof.Machine
end

