-- ==== Sys2Proof/Safety.lean ====
section
/-! DEFINITION. What counts as a safe state and a safe run: the invariants the spec states of its registers (`10_state.md`
R24, R25, R30, R32, R33; `30_encoding.md` R102), and "no error happened during the run" (R25). -/

namespace Sys2Proof.Machine

/-- `CTX_RATE` "can only ever hold 0, 44100 or 48000" (R24). -/
abbrev RateLegal (s : State) : Prop := s.ctxRate = 0 ∨ s.ctxRate = 44100 ∨ s.ctxRate = 48000

/-- "`CTX_VALID = 1` exactly when `reg[CTX_RATE] ≠ 0`" (R25). -/
abbrev ContextAgrees (s : State) : Prop := ctxValid s.status = true ↔ s.ctxRate ≠ 0

/-- `STATUS` bits 3:1 read as 0, `LAST_CAUSE` is one of the codes 0 to 5, 0 exactly when no sticky bit is set, and the
sticky bit of the last cause is set (R25, `60_exceptions.md` R241, R242). -/
abbrev StatusLegal (st : BitVec 13) : Prop :=
  st.extractLsb' 1 3 = 0 ∧ (lastCause st).toNat ≤ 5 ∧ (lastCause st = 0 ↔ st.extractLsb' 8 5 = 0) ∧
    (lastCause st ≠ 0 → st.getLsbD (7 + (lastCause st).toNat) = true)

/-- An oscillator's phase is in [−2^28, 2^28) (R30) and its `SYNC_OUT` is 0 or `0x20000 + FRAC` (`30_encoding.md`
R102). -/
abbrev OscLegal (o : OscUnit) : Prop :=
  (-268435456 ≤ o.phase.toInt ∧ o.phase.toInt ≤ 268435455) ∧ (o.syncOut = 0 ∨ o.syncOut.toNat / 65536 = 2)

/-- An envelope's `LAST` and `SP_PREV` are in [`SIGNAL_MIN`, `SIGNAL_MAX`] and `OUT` is `asr(LAST, 13)` (R32). -/
abbrev EnvLegal (e : EnvUnit) : Prop :=
  (32768 ≤ e.last.toInt ∧ e.last.toInt ≤ 536862720) ∧ (32768 ≤ e.spPrev.toInt ∧ e.spPrev.toInt ≤ 536862720) ∧
    (e.out.toNat : Int) = e.last.toInt / 8192

/-- An LFO's phase is in [−`PI28`, `PI28`) and its generator state is not zero (R33). -/
abbrev LfoLegal (l : LfoUnit) : Prop :=
  (-843314857 ≤ l.phase.toInt ∧ l.phase.toInt < 843314857) ∧ ¬(l.prngHi = 0 ∧ l.prngLo = 0)

/-- The invariants the spec gives the registers. -/
abbrev Inv (s : State) : Prop :=
  RateLegal s ∧ ContextAgrees s ∧ StatusLegal s.status ∧ OscLegal s.osc0 ∧ OscLegal s.osc1 ∧
    EnvLegal s.env0 ∧ EnvLegal s.env1 ∧ EnvLegal s.env2 ∧ EnvLegal s.env3 ∧ LfoLegal s.lfo0 ∧ LfoLegal s.lfo1

/-- "`STATUS[12:8] = 0`": no error has happened since reset (R25, `60_exceptions.md` R242). -/
abbrev NoError (s : State) : Prop := s.status.extractLsb' 8 5 = 0

end Sys2Proof.Machine
end

