-- ==== Sys2Proof/Certificates/Slice0/Obligations.lean ====
section
/-! DEFINITION. The statements for the provers. The vocabulary in `Sys2Proof.Claims` transcribes the spec's numbers and
pseudocode a second time, in plain integer arithmetic, so that a statement does not merely repeat the model. -/

namespace Sys2Proof.Claims

open Sys2Proof.Machine

/-! ### Command words by their numbers (`30_encoding.md` R91 to R93) -/

/-- `OPC` of a word, as a number. -/
def opcOf (c : Word) : Nat := c.toNat / 2 ^ 24

/-- `UNIT` of a word, as a number. -/
def unitNo (c : Word) : Nat := c.toNat / 2 ^ 16 % 2 ^ 8

/-- `IMM` of a word, as a number. -/
def immOf (c : Word) : Nat := c.toNat % 2 ^ 16

/-- The rows of format N (R93). -/
def formatN : List (Nat × Instr) :=
  [(0x00, .nop), (0x10, .sinpi), (0x11, .cospi), (0x12, .tan), (0x13, .exp2), (0x14, .rcp1p), (0x15, .rcp1m),
   (0x16, .n2f), (0x30, .filtNext), (0x3F, .filtRst)]

/-- The rows of format U, with their unit counts (R92, R93). -/
def formatU : List (Nat × Nat × (UnitIndex → Instr)) :=
  [(0x20, 2, .oscNext), (0x2F, 2, .oscRst), (0x40, 4, .envNext), (0x4F, 4, .envRst), (0x50, 2, .lfoNext),
   (0x5F, 2, .lfoSeed)]

/-- The code of `OSC.PAIR`, the one row of format P (R93). -/
def opcPair : Nat := 0x21

/-- The assigned codes (R93). -/
def assigned : List Nat := formatN.map (·.1) ++ formatU.map (·.1) ++ [opcPair]

/-- The codes of the per-sample commands (`45_system.md` R220). -/
def perSample : List Nat := [0x20, 0x21, 0x30, 0x40, 0x50]

/-- A reserved field of the word's format is not zero (R91, R97). -/
abbrev ReservedNonzero (c : Word) : Prop :=
  (opcOf c ∈ formatN.map (·.1) ∧ (unitNo c ≠ 0 ∨ immOf c ≠ 0)) ∨
    (opcOf c ∈ formatU.map (·.1) ∧ immOf c ≠ 0) ∨
    (opcOf c = opcPair ∧ (unitNo c ≠ 0 ∨ 2 ≤ immOf c))

/-- The word is no command: its code is unassigned or a reserved field is not zero (`60_exceptions.md` R243 3a, 3b). -/
abbrev NoCommand (c : Word) : Prop := opcOf c ∉ assigned ∨ ReservedNonzero c

/-- The word passes 3a and 3b and names a unit that does not exist (R243 3c). -/
abbrev NoUnit (c : Word) : Prop := ¬NoCommand c ∧ ∃ row ∈ formatU, opcOf c = row.1 ∧ row.2.1 ≤ unitNo c

/-! ### Recorded errors (`60_exceptions.md` R241, R242) -/

/-- `t` is `s` with an error recorded: the sticky bit set, bits 7:4 holding the code, every other bit of `STATUS` kept,
`ERRINFO` the information word, and nothing else changed (R242). -/
def Recorded (code bit : Nat) (info : Word) (s t : State) : Prop :=
  (∀ k, k < 13 → t.status.getLsbD k =
      if k = bit then true else if 4 ≤ k ∧ k ≤ 7 then code.testBit (k - 4) else s.status.getLsbD k) ∧
    t = { s with status := t.status, errInfo := info }

/-- The step goes on to a state in which the error is recorded on `s`. -/
def StepRecords (code bit : Nat) (info : Word) (before s : State) : Prop :=
  ∃ t, step before = .next t ∧ Recorded code bit info s t

/-- The command reports an error when executed: its unit does not exist, or it is a per-sample command without a context
(`30_encoding.md` R92, `45_system.md` R220). -/
abbrev ExecReports (i : Instr) (s : State) : Prop :=
  i.wellFormed = false ∨ (opcOf (encode i) ∈ perSample ∧ s.status.getLsbD 0 = false)

/-- The "Errors" of a format-N command: `CmdError` if `UNIT` or `IMM` is not 0. -/
def ErrorsN (opc : Nat) : Prop :=
  ∀ (s : State) (c : Word) (rest : List HostEvent), s.host = .wr 0x03 c :: rest → opcOf c = opc →
    unitNo c ≠ 0 ∨ immOf c ≠ 0 → StepRecords 2 9 c s { s with host := rest }

/-- The "Errors" of a format-U command: `CmdError` if `IMM` is not 0, else `UnitError` if the unit does not exist. -/
def ErrorsU (opc count : Nat) : Prop :=
  ∀ (s : State) (c : Word) (rest : List HostEvent), s.host = .wr 0x03 c :: rest → opcOf c = opc →
    (immOf c ≠ 0 → StepRecords 2 9 c s { s with host := rest }) ∧
      (immOf c = 0 → count ≤ unitNo c → StepRecords 3 10 c s { s with host := rest })

/-- The "Errors" of `OSC.PAIR`: `CmdError` if `UNIT` or `IMM[15:1]` is not 0. -/
def ErrorsP (opc : Nat) : Prop :=
  ∀ (s : State) (c : Word) (rest : List HostEvent), s.host = .wr 0x03 c :: rest → opcOf c = opc →
    unitNo c ≠ 0 ∨ 2 ≤ immOf c → StepRecords 2 9 c s { s with host := rest }

/-- `NoCtxError` of a per-sample command whose word is otherwise good while `CTX_VALID` = 0. -/
def ErrorsNoContext (opc : Nat) : Prop :=
  ∀ (s : State) (c : Word) (rest : List HostEvent), s.host = .wr 0x03 c :: rest → opcOf c = opc →
    ¬NoCommand c → ¬NoUnit c → s.status.getLsbD 0 = false → StepRecords 4 11 c s { s with host := rest }

/-! ### The register map by its numbers (`10_state.md` R27) -/

/-- The rows of one oscillator: offset, register, access, width, reset value. -/
def oscRows : List (Nat × OscReg × Access × Nat × Nat) :=
  [(0, .note, .rw, 16, 0), (1, .tune, .rw, 16, 0), (2, .shape, .rw, 16, 0), (3, .syncIn, .rw, 18, 0),
   (4, .sin, .ro, 16, 0), (5, .sq, .ro, 16, 0), (6, .tri, .ro, 16, 0), (7, .saw, .ro, 16, 0),
   (8, .syncOut, .ro, 18, 0), (9, .phase, .ro, 32, 0)]

/-- The rows of the filter. -/
def filtRows : List (Nat × FiltReg × Access × Nat × Nat) :=
  [(0, .input, .rw, 16, 0), (1, .cutoff, .rw, 16, 0), (2, .res, .rw, 16, 0), (3, .low, .ro, 16, 0),
   (4, .band, .ro, 16, 0), (5, .high, .ro, 16, 0), (6, .zLow, .ro, 32, 0), (7, .zBand, .ro, 32, 0)]

/-- The rows of one envelope. -/
def envRows : List (Nat × EnvReg × Access × Nat × Nat) :=
  [(0, .gate, .rw, 16, 0), (1, .attack, .rw, 16, 0), (2, .decay, .rw, 16, 0), (3, .sustain, .rw, 16, 0),
   (4, .release, .rw, 16, 0), (5, .out, .ro, 16, 0x0004), (6, .state, .ro, 2, 0), (7, .last, .ro, 32, 0x00008000),
   (8, .spPrev, .ro, 32, 0x00008000)]

/-- The rows of one LFO. -/
def lfoRows : List (Nat × LfoReg × Access × Nat × Nat) :=
  [(0, .gate, .rw, 16, 0), (1, .freq, .rw, 16, 0), (2, .depth, .rw, 16, 0), (3, .options, .rw, 16, 0x0300),
   (4, .out, .ro, 16, 0), (5, .phase, .ro, 32, 0), (6, .prevGate, .ro, 1, 0), (7, .rand0, .ro, 16, 0),
   (8, .rand1, .ro, 16, 0), (9, .seedLo, .rw, 32, 0), (10, .seedHi, .rw, 32, 0), (11, .prngLo, .ro, 32, 0x7F4A7C15),
   (12, .prngHi, .ro, 32, 0x9E3779B9)]

/-- Every register that has a reset value reads as it (R27, R40). -/
def ReadsAsReset (s : State) (rows : List (Nat × Reg × Access × Nat × Option Nat)) : Prop :=
  ∀ row ∈ rows, ∀ v, row.2.2.2.2 = some v → readReg row.2.1 s = BitVec.ofNat 32 v

/-- A page of unit registers at a base. -/
def page {R : Type} (base : Nat) (name : R → Reg) (rows : List (Nat × R × Access × Nat × Nat)) :
    List (Nat × Reg × Access × Nat × Option Nat) :=
  rows.map fun row => (base + row.1, name row.2.1, row.2.2.1, row.2.2.2.1, some row.2.2.2.2)

/-- The whole map (R27): number, register, access, width, reset value (`CMD` has none: it "holds no value"). -/
def registerMap : List (Nat × Reg × Access × Nat × Option Nat) :=
  [(0x00, .ctxRate, .rwChecked, 32, some 0), (0x01, .status, .ro, 13, some 0), (0x02, .errInfo, .ro, 32, some 0),
   (0x03, .cmd, .wo, 32, none), (0x04, .mathArg, .rw, 32, some 0), (0x05, .mathRes, .ro, 32, some 0),
   (0x06, .mathExp, .ro, 32, some 0)] ++
    page 0x10 (.osc 0) oscRows ++ page 0x20 (.osc 1) oscRows ++ page 0x30 .filt filtRows ++
    page 0x40 (.env 0) envRows ++ page 0x50 (.env 1) envRows ++ page 0x60 (.env 2) envRows ++
    page 0x70 (.env 3) envRows ++ page 0x80 (.lfo 0) lfoRows ++ page 0x90 (.lfo 1) lfoRows

/-- An unmapped number (R27, the list under the table). -/
abbrev Unmapped (a : RegNum) : Prop :=
  (0x07 ≤ a.toNat ∧ a.toNat ≤ 0x0F) ∨ (0x1A ≤ a.toNat ∧ a.toNat ≤ 0x1F) ∨ (0x2A ≤ a.toNat ∧ a.toNat ≤ 0x2F) ∨
    (0x38 ≤ a.toNat ∧ a.toNat ≤ 0x3F) ∨ (0x49 ≤ a.toNat ∧ a.toNat ≤ 0x4F) ∨ (0x59 ≤ a.toNat ∧ a.toNat ≤ 0x5F) ∨
    (0x69 ≤ a.toNat ∧ a.toNat ≤ 0x6F) ∨ (0x79 ≤ a.toNat ∧ a.toNat ≤ 0x7F) ∨ (0x8D ≤ a.toNat ∧ a.toNat ≤ 0x8F) ∨
    0x9D ≤ a.toNat

/-- A number that names a read-only register (R27). -/
abbrev ReadOnly (a : RegNum) : Prop := ∃ row ∈ registerMap, row.1 = a.toNat ∧ row.2.2.1 = .ro

/-! ### Which registers a command writes and reads (the "Reads" and "Writes" of the command rules) -/

/-- The result and state registers of an oscillator (`41_oscillator.md` R150 to R152). -/
def oscWritten : List OscReg := [.sin, .sq, .tri, .saw, .syncOut, .phase]

/-- The result and state registers of the filter (`42_filter.md` R172, R173). -/
def filtWritten : List FiltReg := [.low, .band, .high, .zLow, .zBand]

/-- The result and state registers of an envelope (`43_envelope.md` R190, R191). -/
def envWritten : List EnvReg := [.state, .last, .spPrev, .out]

/-- The result and state registers of an LFO (`44_lfo.md` R206, R210). -/
def lfoWritten : List LfoReg := [.out, .phase, .prevGate, .rand0, .rand1, .prngLo, .prngHi]

/-- The registers a command may write when it executes. -/
def Writes (i : Instr) (r : Reg) : Prop :=
  match i, r with
  | .sinpi, r | .cospi, r | .tan, r | .exp2, r | .rcp1p, r | .rcp1m, r | .n2f, r => r = .mathRes ∨ r = .mathExp
  | .oscNext u, .osc v r => v.val = u.toNat ∧ r ∈ oscWritten
  | .oscRst u, .osc v r => v.val = u.toNat ∧ r ∈ oscWritten
  | .oscPair _, .osc _ r => r ∈ oscWritten
  | .filtNext, .filt r => r ∈ filtWritten
  | .filtRst, .filt r => r ∈ filtWritten
  | .envNext u, .env e r => e.val = u.toNat ∧ r ∈ envWritten
  | .envRst u, .env e r => e.val = u.toNat ∧ r ∈ envWritten
  | .lfoNext u, .lfo l r => l.val = u.toNat ∧ r ∈ lfoWritten
  | .lfoSeed u, .lfo l r => l.val = u.toNat ∧ r ∈ lfoWritten
  | _, _ => False

/-- The registers a command reads when it executes. -/
def Reads (i : Instr) (r : Reg) : Prop :=
  match i, r with
  | .sinpi, r | .cospi, r | .tan, r | .exp2, r | .rcp1p, r | .rcp1m, r | .n2f, r => r = .mathArg
  | .oscNext _, .ctxRate | .oscPair _, .ctxRate | .filtNext, .ctxRate | .envNext _, .ctxRate | .lfoNext _, .ctxRate => True
  | .oscNext u, .osc v r => v.val = u.toNat ∧ r ∈ [OscReg.note, .tune, .shape, .syncIn, .phase]
  | .oscPair _, .osc 0 r => r ∈ [OscReg.note, .tune, .shape, .phase]
  | .oscPair _, .osc 1 r => r ∈ [OscReg.tune, .shape, .phase]
  | .filtNext, .filt r => r ∈ [FiltReg.input, .cutoff, .res, .zLow, .zBand]
  | .envNext u, .env e r =>
      e.val = u.toNat ∧ r ∈ [EnvReg.gate, .attack, .decay, .sustain, .release, .state, .last, .spPrev]
  | .lfoNext u, .lfo l r =>
      l.val = u.toNat ∧ r ∈ [LfoReg.gate, .freq, .depth, .options, .phase, .prevGate, .rand0, .rand1, .prngLo, .prngHi]
  | .lfoSeed u, .lfo l r => l.val = u.toNat ∧ r ∈ [LfoReg.seedLo, .seedHi]
  | _, _ => False

/-! ### The rules' pseudocode in plain integer arithmetic -/

/-- Saturation to a range. -/
def sat (lo hi v : Int) : Int := max lo (min hi v)

/-- A context: `CTX_VALID` = 1 and a supported rate in `CTX_RATE`. -/
def Context (s : State) : Prop := s.status.getLsbD 0 = true ∧ (s.ctxRate = 44100 ∨ s.ctxRate = 48000)

/-- `K1[rate]` of a supported rate (`21_rom_tables.md` R83). -/
def k1Of (rate : Word) : Int := if rate = 44100 then 38246 else 35138

/-- `K2[rate]` of a supported rate (R83). -/
def k2Of (rate : Word) : Int := if rate = 44100 then 48696 else 44739

/-- `HALF_SR[rate]` of a supported rate (R83). -/
def halfOf (rate : Word) : Int := if rate = 44100 then 22050 else 24000

/-- Position in `SIN_TAB`'s domain (`40_math.md` R121, `u`). -/
def sineArg (x : Int) : Int := (x + 2 ^ 28) % 2 ^ 29

/-- `sinpi(x)` (R121). -/
def sine (x : Int) : Int :=
  let i := (sineArg x / 2 ^ 21).toNat
  sinRom.getD i 0 + ((sinRom.getD (i + 1) 0 - sinRom.getD i 0) * (sineArg x % 2 ^ 21)) / 2 ^ 21

/-- `tan_r(x)` before its saturation (R123). -/
def tanPoly (x : Int) : Int := x + (x * x / 2 ^ 28 * x / 2 ^ 28 * 21845) / 2 ^ 16

/-- `y` of `exp2(x)` (R124). -/
def pow2Mantissa (x : Int) : Int :=
  let j := (x % 2 ^ 27 / 2 ^ 21).toNat
  exp2Rom.getD j 0 + ((exp2Rom.getD (j + 1) 0 - exp2Rom.getD j 0) * (x % 2 ^ 27 % 2 ^ 21)) / 2 ^ 21

/-- `exp2(x)` (R124). -/
def pow2 (x : Int) : Int :=
  let xi := x / 2 ^ 27
  sat 0 (2 ^ 32 - 1)
    (if xi ≤ 12 then pow2Mantissa x / 2 ^ (12 - xi).toNat else pow2Mantissa x * 2 ^ (xi - 12).toNat)

/-- `n2f(n)` (R125). -/
def noteHz (n : Int) : Int := pow2 (n * 1431655765 / 2 ^ 16 + 406862214)

/-- `rcpm(f)` (R126). -/
def recip (f : Int) : Int :=
  let j := (f / 2 ^ 9).toNat
  rcpRom.getD j 0 + ((rcpRom.getD (j + 1) 0 - rcpRom.getD j 0) * (f % 512)) / 2 ^ 9

/-- `advance(q, sync_in)` (`41_oscillator.md` R148), line by line. -/
def phaseAdvance (s m1p m1m : Int) (z : Nat) (dNeg dPos q : Int) (sync : OscSync) : Int × OscSync :=
  let up (new : Int) : Int := sat (-2 ^ 31) (2 ^ 31 - 1) (new * (65536 + s) / 2 ^ 16 * m1m / 2 ^ (16 - z))
  let before : Int × OscSync :=
    match sync with
    | .secondary c => (sat (-2 ^ 31) (2 ^ 31 - 1) (c.toNat * dPos / 2 ^ 16), .off)
    | .primary =>
        if q < 0 then
          if q + dNeg < 0 then (q + dNeg, .off)
          else (up (q + dNeg), .secondary (BitVec.ofInt 16 (sat 0 65535 ((q + dNeg) * 2 ^ 16 / dNeg))))
        else (sat (-2 ^ 31) (2 ^ 31 - 1) (q + dPos), .off)
    | .off =>
        if q < 0 then if q + dNeg < 0 then (q + dNeg, .off) else (up (q + dNeg), .off)
        else (sat (-2 ^ 31) (2 ^ 31 - 1) (q + dPos), .off)
  let new := if 2 ^ 28 ≤ before.1 then -2 ^ 28 + ((before.1 - 2 ^ 28) * (65536 - s) / 2 ^ 16 * m1p) / 2 ^ 16 else before.1
  ((new + 2 ^ 28) % 2 ^ 29 - 2 ^ 28, before.2)

/-- `osc_sample` (R142 to R149) on the registers of an oscillator, with the sync output. -/
def oscAfter (rate : Word) (note : Note) (sync : OscSync) (o : OscUnit) : OscUnit × OscSync :=
  let n := sat 0 65535 ((note.toNat : Int) + o.tune.toInt)
  let d := noteHz n * k2Of rate / 2 ^ 20
  let s : Int := min (o.shape.toNat : Int) 0xF000
  let m1p := recip s
  let m1m := (rcp1m s).1
  let z := (rcp1m s).2
  let q := o.phase.toInt
  let a := phaseAdvance s m1p m1m z (d * m1p / 2 ^ 16) (sat (-2 ^ 31) (2 ^ 31 - 1) (d * m1m / 2 ^ (16 - z))) q sync
  ({ o with
      sin := BitVec.ofInt 16 (sine q / 4)
      sq := if q < 0 then 0xF000 else 0x1000
      tri := BitVec.ofInt 16 (sat (-32768) 32767 ((2 ^ 28 - 2 * |q|) / 2 ^ 16))
      saw := BitVec.ofInt 16 (sat (-32768) 32767 (q / 2 ^ 16))
      phase := BitVec.ofInt 32 a.1 }, a.2)

/-- `decode_sync` (`30_encoding.md` R102). -/
def syncOf (v : SyncWord) : OscSync :=
  if v.toNat / 2 ^ 16 = 1 then .primary
  else if v.toNat / 2 ^ 16 = 2 then .secondary (BitVec.ofNat 16 v.toNat) else .off

/-- The value the block writes to `OSCu_SYNC_OUT`: 0 for `Off`, `0x20000 + FRAC` for `Secondary` (R102). -/
def syncWord : OscSync → SyncWord
  | .off => 0
  | .primary => 0x10000
  | .secondary c => BitVec.ofNat 18 (0x20000 + c.toNat)

/-- An LFO's generator state as a number: `LFOl_PRNG_HI` above `LFOl_PRNG_LO` (`10_state.md` R33). -/
def generator (l : LfoUnit) : Nat := l.prngHi.toNat * 2 ^ 32 + l.prngLo.toNat

/-- `prng_step(P)` on numbers (`44_lfo.md` R203). -/
def xorshift (p : Nat) : Nat :=
  let a := p ^^^ (p * 2 ^ 13 % 2 ^ 64)
  let b := a ^^^ (a / 2 ^ 7)
  b ^^^ (b * 2 ^ 17 % 2 ^ 64)

/-- `lfo_wave(wave, q, r0, r1)` (R212) by the waveform code, invalid codes as the sine (R201). -/
def waveOf (code : Nat) (q r0 r1 : Int) : Int :=
  match code with
  | 1 => if q < 0 then -4096 else 4096
  | 2 => sat (-32768) 32767 ((2 ^ 28 - 2 * |q|) / 2 ^ 16)
  | 3 => sat (-32768) 32767 (q / 2 ^ 16)
  | 4 => r0 / 8
  | 5 => (r1 + (r0 - r1) * sat 0 65535 ((q + 2 ^ 28) / 2 ^ 13) / 2 ^ 16) / 8
  | _ => sine q / 4

/-- The registers of an LFO after `LFO.NEXT` (R201, R202, R207, R210 to R214). -/
def lfoAfter (rate : Word) (l : LfoUnit) : LfoUnit :=
  let gateNow := decide (2048 < l.gate.toInt)
  let phase := if l.options.toNat / 512 % 2 = 1 ∧ gateNow = true ∧ l.prevGate = false then 0 else l.phase.toInt
  let q := sat (-2 ^ 28) (2 ^ 28 - 1) (phase * 1367130551 / 2 ^ 32)
  let v := waveOf (l.options.toNat % 256) q l.rand0.toInt l.rand1.toInt
  let w := if l.options.toNat / 256 % 2 = 1 then v else (v + 4096) / 2
  let ph := phase + (l.freq.toNat : Int) * k1Of rate / 2 ^ 11
  let p := xorshift (generator l)
  let sampled := { l with out := BitVec.ofInt 16 (w * l.depth.toNat / 2 ^ 16), prevGate := gateNow }
  if ph < 843314857 then { sampled with phase := BitVec.ofInt 32 ph }
  else { sampled with
          phase := BitVec.ofInt 32 (ph - 1686629714)
          rand1 := l.rand0
          rand0 := BitVec.ofNat 16 (p / 2 ^ 48)
          prngHi := BitVec.ofNat 32 (p / 2 ^ 32)
          prngLo := BitVec.ofNat 32 p }

/-- The registers of an envelope after `ENV.NEXT` (`43_envelope.md` R187 to R190). -/
def envAfter (rate : Word) (e : EnvUnit) : EnvUnit :=
  let last := e.last.toInt
  let st : EnvState :=
    if e.gate.toInt ≤ 2048 then .release
    else if e.state = .decay then .decay
    else if 526131200 < last then .decay else .attack
  let sp : Int :=
    match st with
    | .release => 32768
    | .attack => 536862720
    | .decay => sat 32768 536862720 ((e.sustain.toNat : Int) * 2 ^ 13)
  let rise : Int :=
    match st with
    | .release => e.release.toNat
    | .attack => e.attack.toNat
    | .decay => e.decay.toNat
  let k := rise * halfOf rate + 4096
  let num := e.spPrev.toInt + sp - 2 * last
  let delta := if 0 ≤ num then num * 2 ^ 12 / k else -(-num * 2 ^ 12 / k)
  let last' := sat 32768 536862720 (last + delta)
  { e with
      state := st
      last := BitVec.ofInt 32 last'
      spPrev := BitVec.ofInt 32 sp
      out := BitVec.ofInt 16 (last' / 2 ^ 13) }

/-- The damping `rr` and the gain `g` of one filter sample (`42_filter.md` R171). -/
def filtGain (rate : Word) (f : FiltUnit) : Int × Int :=
  (65536 - min (f.res.toNat : Int) 0xF000,
   sat (-2 ^ 31) (2 ^ 31 - 1) (tanPoly (noteHz f.cutoff.toNat * k1Of rate / 2 ^ 19)))

/-- The registers of the filter after `FILT.NEXT` (R171, R172), with the reciprocal `(m, e)` of the denominator. -/
def filtAfter (rr g m : Int) (e : Nat) (f : FiltUnit) : FiltUnit :=
  let s32 := sat (-2 ^ 31) (2 ^ 31 - 1)
  let s16 := sat (-32768) 32767
  let zl := f.zLow.toInt
  let zb := f.zBand.toInt
  let num := s32 (f.input.toInt * 2 ^ 8 - (rr * 2 ^ 13 + g) * zb / 2 ^ 28 - zl)
  let high := num * m / 2 ^ (16 + e)
  let bg := g * high / 2 ^ 28
  let band := s32 (bg + zb)
  let lg := g * band / 2 ^ 28
  let low := s32 (lg + zl)
  { f with
      zBand := BitVec.ofInt 32 (s32 (band + bg))
      zLow := BitVec.ofInt 32 (s32 (low + lg))
      low := BitVec.ofInt 16 (s16 (low / 2 ^ 8))
      band := BitVec.ofInt 16 (s16 (band / 2 ^ 8))
      high := BitVec.ofInt 16 (s16 (high / 2 ^ 8)) }

end Sys2Proof.Claims

open Sys2Proof Sys2Proof.Machine Sys2Proof.Claims

/-! ### Encoding -/

/-- `30_encoding.md` R96: every 32-bit word decodes, by its numbers, as the opcode map says; an illegal word is reported as
`CmdError`, a bad unit as `UnitError`. -/
def Obligations.DecodeFollowsTheOpcodeMap : Prop :=
  ∀ c : Word,
    (∀ row ∈ formatN, opcOf c = row.1 →
      decode c = if unitNo c = 0 ∧ immOf c = 0 then .command row.2 else .illegal .reservedField) ∧
    (∀ row ∈ formatU, opcOf c = row.1 →
      decode c = if immOf c ≠ 0 then .illegal .reservedField
        else if unitNo c < row.2.1 then .command (row.2.2 (BitVec.ofNat 8 (unitNo c)))
        else .badUnit (row.2.2 (BitVec.ofNat 8 (unitNo c)))) ∧
    (opcOf c = opcPair →
      decode c = if unitNo c = 0 ∧ immOf c < 2 then .command (.oscPair (decide (immOf c = 1)))
        else .illegal .reservedField) ∧
    (opcOf c ∉ assigned → decode c = .illegal .unassigned) ∧
    (∀ (s : State) (rest : List HostEvent), s.host = .wr 0x03 c :: rest →
      (∀ why, decode c = .illegal why → StepRecords 2 9 c s { s with host := rest }) ∧
      (∀ i, decode c = .badUnit i → StepRecords 3 10 c s { s with host := rest }))

/-- Decode and encode agree, both ways: a well-formed command's word decodes to it, an ill-formed one's to a bad unit, and
every word that decodes is the word of what it decodes to. -/
def Obligations.DecodeAndEncodeAgree : Prop :=
  (∀ i : Instr, i.wellFormed = true → decode (encode i) = .command i) ∧
  (∀ i : Instr, i.wellFormed = false → decode (encode i) = .badUnit i) ∧
  (∀ (c : Word) (i : Instr), decode c = .command i → i.wellFormed = true ∧ encode i = c) ∧
  (∀ (c : Word) (i : Instr), decode c = .badUnit i → i.wellFormed = false ∧ encode i = c)

/-- The command words of `95_test_vectors.md` 2.7, written out from the encoding, decode to their commands. -/
def Obligations.ListedWordsDecode : Prop :=
  ∀ row ∈ ([(0x00000000, .nop), (0x10000000, .sinpi), (0x11000000, .cospi), (0x12000000, .tan), (0x13000000, .exp2),
      (0x14000000, .rcp1p), (0x15000000, .rcp1m), (0x16000000, .n2f), (0x20010000, .oscNext 1),
      (0x21000001, .oscPair true), (0x2F010000, .oscRst 1), (0x30000000, .filtNext), (0x3F000000, .filtRst),
      (0x40030000, .envNext 3), (0x4F020000, .envRst 2), (0x50010000, .lfoNext 1), (0x5F010000, .lfoSeed 1)] :
      List (Word × Instr)), decode row.1 = .command row.2

/-! ### Registers -/

/-- `10_state.md` R27: the numbers name the registers, with the access and width of the table, and the others are
unmapped. -/
def Obligations.RegisterMapIsTheTable : Prop :=
  (∀ row ∈ registerMap,
    regAt (BitVec.ofNat 8 row.1) = some row.2.1 ∧ row.2.1.access = row.2.2.1 ∧ row.2.1.width = row.2.2.2.1) ∧
  (∀ a : RegNum, regAt a = none ↔ Unmapped a) ∧
  (∀ a : RegNum, regAt a ≠ none → a.toNat ∈ registerMap.map (·.1)) ∧ registerMap.length = 97

/-- `10_state.md` R40: after reset every register reads as the reset column of R27 says. Every register has a row, and a
reset value but for `CMD`, which holds no value and of which nothing is said. -/
def Obligations.ResetGivesTheResetColumn : Prop :=
  ReadsAsReset State.reset registerMap ∧
  (∀ r : Reg, ∃ row ∈ registerMap, row.2.1 = r ∧ (row.2.2.2.2 = none ↔ r = .cmd))

/-- `10_state.md` R28: the bits of a register above its width read as 0, in every state. -/
def Obligations.BitsAboveTheWidthReadZero : Prop :=
  ∀ (r : Reg) (s : State), (readReg r s).toNat < 2 ^ r.width

/-! ### The host's transactions -/

/-- `20_memory.md` R61: what a host write and a host read do. The performing of a command word (R220) and the checked
write of `CTX_RATE` (R224) have statements of their own. -/
def Obligations.HostTransactions : Prop :=
  (∀ (s : State) (a : RegNum) (d : Word) (rest : List HostEvent), s.host = .wr a d :: rest →
    (Unmapped a ∨ ReadOnly a → StepRecords 5 12 (BitVec.ofNat 32 (256 + a.toNat)) s { s with host := rest }) ∧
    (a = 0x03 → step s = perform d { s with host := rest }) ∧
    (a = 0x00 → step s = .next (writeCtxRate d { s with host := rest })) ∧
    (∀ r, regAt a = some r → r.access = .rw →
      ∃ t, step s = .next t ∧ (readReg r t).toNat = d.toNat % 2 ^ r.width ∧
        (∀ r', r' ≠ r → readReg r' t = readReg r' s) ∧ t.host = rest ∧ t.answers = s.answers)) ∧
  (∀ (s : State) (a : RegNum) (rest : List HostEvent), s.host = .rd a :: rest →
    (Unmapped a ∨ a = 0x03 →
      StepRecords 5 12 (BitVec.ofNat 32 a.toNat) s { s with host := rest, answers := s.answers ++ [0] }) ∧
    (∀ r, regAt a = some r → a ≠ 0x03 →
      step s = .next { s with host := rest, answers := s.answers ++ [readReg r s] }))

/-- `45_system.md` R224: a supported rate makes the context and changes nothing else; any other is refused with
`RateError` and the old context stays. -/
def Obligations.WritingTheRateMakesTheContext : Prop :=
  ∀ (s : State) (d : Word) (rest : List HostEvent), s.host = .wr 0x00 d :: rest →
    (d = 44100 ∨ d = 48000 →
      ∃ t, step s = .next t ∧ t.ctxRate = d ∧ t.status.getLsbD 0 = true ∧
        (∀ k, 0 < k → t.status.getLsbD k = s.status.getLsbD k) ∧
        t = { s with host := rest, ctxRate := d, status := t.status }) ∧
    (d ≠ 44100 → d ≠ 48000 → StepRecords 1 8 d s { s with host := rest })

/-- `60_exceptions.md` R241 to R243: each transaction reports at most one error, the first check of the list that fails,
recorded as R242 says; a command that passes them all reports none. -/
def Obligations.FirstFailingCheckIsReported : Prop :=
  (∀ (s : State) (a : RegNum) (d : Word) (rest : List HostEvent), s.host = .wr a d :: rest →
    (Unmapped a ∨ ReadOnly a → StepRecords 5 12 (BitVec.ofNat 32 (256 + a.toNat)) s { s with host := rest }) ∧
    (a = 0x00 → d ≠ 44100 → d ≠ 48000 → StepRecords 1 8 d s { s with host := rest }) ∧
    (a = 0x00 → d = 44100 ∨ d = 48000 →
      ∃ t, step s = .next t ∧ (∀ k, 0 < k → t.status.getLsbD k = s.status.getLsbD k) ∧ t.errInfo = s.errInfo) ∧
    (a = 0x03 → NoCommand d → StepRecords 2 9 d s { s with host := rest }) ∧
    (a = 0x03 → NoUnit d → StepRecords 3 10 d s { s with host := rest }) ∧
    (a = 0x03 → ¬NoCommand d → ¬NoUnit d → opcOf d ∈ perSample → s.status.getLsbD 0 = false →
      StepRecords 4 11 d s { s with host := rest }) ∧
    (a = 0x03 → ¬NoCommand d → ¬NoUnit d → (opcOf d ∈ perSample → s.status.getLsbD 0 = true) →
      ∃ t, step s = .next t ∧ t.status = s.status ∧ t.errInfo = s.errInfo) ∧
    (¬Unmapped a → ¬ReadOnly a → a ≠ 0x00 → a ≠ 0x03 →
      ∃ t, step s = .next t ∧ t.status = s.status ∧ t.errInfo = s.errInfo)) ∧
  (∀ (s : State) (a : RegNum) (rest : List HostEvent), s.host = .rd a :: rest →
    (Unmapped a ∨ a = 0x03 →
      StepRecords 5 12 (BitVec.ofNat 32 a.toNat) s { s with host := rest, answers := s.answers ++ [0] }) ∧
    (¬Unmapped a → a ≠ 0x03 →
      ∃ t, step s = .next t ∧ t.status = s.status ∧ t.errInfo = s.errInfo))

/-- `45_system.md` R220: the four ways a word written to `CMD` is performed. -/
def Obligations.CommandsArePerformed : Prop :=
  ∀ (s : State) (c : Word) (rest : List HostEvent), s.host = .wr 0x03 c :: rest →
    (∀ why, decode c = .illegal why → StepRecords 2 9 c s { s with host := rest }) ∧
    (∀ i, decode c = .badUnit i → StepRecords 3 10 c s { s with host := rest }) ∧
    (∀ i, decode c = .command i → opcOf c ∈ perSample → s.status.getLsbD 0 = false →
      StepRecords 4 11 c s { s with host := rest }) ∧
    (∀ i, decode c = .command i → (opcOf c ∈ perSample → s.status.getLsbD 0 = true) →
      step s = exec i { s with host := rest } ∧
        ∃ t, exec i { s with host := rest } = .next t ∧ t.status = s.status ∧ t.errInfo = s.errInfo)

/-- When the next event writes a word to `CMD` that decodes to a well-formed command, the step is that command's meaning
on the state with the event taken. (Taking events from the list `host` is the model's, log entry 1.) -/
def Obligations.StepRunsTheDecodedCommand : Prop :=
  ∀ (s : State) (c : Word) (i : Instr) (rest : List HostEvent), s.host = .wr 0x03 c :: rest →
    decode c = .command i → step s = exec i { s with host := rest }

/-- Placing a command's word in front of the events makes the very next step run it (log entry 1, the model's own). -/
def Obligations.PlacedWordRunsNext : Prop :=
  ∀ (s : State) (i : Instr), i.wellFormed = true → step (s.withFetchWord 32 (encode i).toNat) = exec i s

/-! ### The whole machine -/

/-- Nothing stops the block: every step goes on, but for a second host's transaction, which is refused
(`60_exceptions.md` R240, `20_memory.md` R67). With no event coming nothing changes (log entry 3). -/
def Obligations.OnlyASecondHostIsRefused : Prop :=
  (∀ s : State, s.host.head? ≠ some .otherHost → ∃ t, step s = .next t) ∧
  (∀ s : State, s.host.head? = some .otherHost → step s = .refused .secondHost) ∧
  (∀ s : State, s.host = [] → step s = .next s)

/-- `70_reset_and_hazards.md` R260: a hardware reset puts every register that has a reset value (`CMD` holds none) at that
value, whatever the state was; the host's events and the answers it has are kept (the model's own, log entry 4). -/
def Obligations.HardwareResetResetsEveryRegister : Prop :=
  ∀ (s : State) (rest : List HostEvent), s.host = .hwReset :: rest →
    ∃ t, step s = .next t ∧ ReadsAsReset t registerMap ∧
      t.host = rest ∧ t.answers = s.answers

/-- The invariants hold after reset. -/
def Obligations.InvariantsHoldAtReset : Prop := Inv State.reset ∧ NoError State.reset

/-- Every step keeps the invariants of the registers (`10_state.md` R24, R25, R30, R32, R33). -/
def Obligations.EveryStepKeepsTheInvariants : Prop :=
  ∀ s t : State, Inv s → step s = .next t → Inv t

/-- `10_state.md` R25, `60_exceptions.md` R242: only a hardware reset clears the error bits and `CTX_VALID`, and only it
lets `LAST_CAUSE` return to 0. -/
def Obligations.OnlyResetClearsStatus : Prop :=
  ∀ s t : State, s.host.head? ≠ some .hwReset → step s = .next t →
    (∀ k, k = 0 ∨ (8 ≤ k ∧ k ≤ 12) → s.status.getLsbD k = true → t.status.getLsbD k = true) ∧
    (s.status.extractLsb' 4 4 ≠ 0 → t.status.extractLsb' 4 4 ≠ 0)

/-- A run without a hardware reset that ends with no error bit set had none at any moment (`60_exceptions.md` R242). -/
def Obligations.NoErrorAtTheEndMeansNoErrorEver : Prop :=
  ∀ (k : Nat) (s t : State), .hwReset ∉ s.host → Sys2Proof.core.run k s = .next t → NoError t →
    ∀ j, j ≤ k → ∃ u : State, Sys2Proof.core.run j s = .next u ∧ NoError u

/-- Every command goes on to a next state, in every state. Where it reports an error (its unit does not exist, or it is a
per-sample command without a context) it changes only `STATUS` and `ERRINFO`; everywhere else it keeps these two and
changes only the registers its rule lists (`10_state.md` R29, `45_system.md` R220). -/
def Obligations.CommandsChangeOnlyTheirRegisters : Prop :=
  ∀ (i : Instr) (s : State), ∃ t, exec i s = .next t ∧ t.host = s.host ∧ t.answers = s.answers ∧
    (ExecReports i s → t = { s with status := t.status, errInfo := t.errInfo }) ∧
    (¬ExecReports i s → t.status = s.status ∧ t.errInfo = s.errInfo ∧ ∀ r, ¬Writes i r → readReg r t = readReg r s)

/-- `10_state.md` R21: "Parameter and input registers are read-write by the host and are never written by the block."
No command changes an `RW` register or the context's rate. -/
def Obligations.CommandsNeverWriteInputs : Prop :=
  ∀ (i : Instr) (s t : State), exec i s = .next t →
    ∀ r : Reg, r.access = .rw ∨ r.access = .rwChecked → readReg r t = readReg r s

/-- `10_state.md` R29: what a command writes depends only on the registers its rule reads: two states that agree on those
agree afterwards on all that it writes. -/
def Obligations.ResultsDependOnlyOnTheRegistersRead : Prop :=
  ∀ (i : Instr) (s₁ s₂ : State), i.wellFormed = true →
    (i.needsContext = true → s₁.status.getLsbD 0 = true ∧ s₂.status.getLsbD 0 = true) →
    (∀ r, Reads i r → readReg r s₁ = readReg r s₂) →
    ∃ t₁ t₂, exec i s₁ = .next t₁ ∧ exec i s₂ = .next t₂ ∧ ∀ r, Writes i r → readReg r t₁ = readReg r t₂

/-- A command whose unit does not exist, or a per-sample command without a context, records its error with its own word and
changes nothing else. -/
def Obligations.CommandsThatDoNotExecute : Prop :=
  (∀ (i : Instr) (s : State), i.wellFormed = false → ∃ t, exec i s = .next t ∧ Recorded 3 10 (encode i) s t) ∧
  (∀ (i : Instr) (s : State), i.wellFormed = true → opcOf (encode i) ∈ perSample → s.status.getLsbD 0 = false →
    ∃ t, exec i s = .next t ∧ Recorded 4 11 (encode i) s t)

/-- `45_system.md` R221: `NOP` changes nothing, needs no context; the words of its code with a field not zero are no
`NOP`. -/
def Obligations.NopDoesNothing : Prop :=
  (∀ s : State, exec .nop s = .next s) ∧ decode 0x00000000 = .command .nop ∧ ErrorsN 0x00

/-! ### MATH -/

/-- `40_math.md` R120: the MATH commands write `MATH_RES` and `MATH_EXP` from `MATH_ARG` alone (`MATH_EXP` 0 but for the
reciprocals), in any state, and no other command touches the three registers. -/
def Obligations.MathCommandsUseOnlyTheMathRegisters : Prop :=
  (∀ i ∈ [Instr.sinpi, .cospi, .tan, .exp2, .n2f, .rcp1p, .rcp1m], ∃ f : Word → Word × Word,
    (∀ s : State, exec i s = .next { s with mathRes := (f s.mathArg).1, mathExp := (f s.mathArg).2 }) ∧
      (i ≠ .rcp1p → i ≠ .rcp1m → ∀ a, (f a).2 = 0)) ∧
  (∀ (i : Instr) (s t : State), i ∉ [Instr.sinpi, .cospi, .tan, .exp2, .n2f, .rcp1p, .rcp1m] → exec i s = .next t →
    t.mathArg = s.mathArg ∧ t.mathRes = s.mathRes ∧ t.mathExp = s.mathExp)

/-- `40_math.md` R121: `SINPI` is the floored interpolation of `SIN_TAB`, its index in range, its result in −16384 to
16384. -/
def Obligations.SinpiInterpolatesTheTable : Prop :=
  ∀ s : State,
    exec .sinpi s = .next { s with mathRes := BitVec.ofInt 32 (sine s.mathArg.toInt), mathExp := 0 } ∧
    (0 ≤ sineArg s.mathArg.toInt / 2 ^ 21 ∧ sineArg s.mathArg.toInt / 2 ^ 21 + 1 ≤ 256) ∧
    (-16384 ≤ sine s.mathArg.toInt ∧ sine s.mathArg.toInt ≤ 16384) ∧
    (sineArg s.mathArg.toInt % 2 ^ 21 = 0 →
      sine s.mathArg.toInt = sinRom.getD (sineArg s.mathArg.toInt / 2 ^ 21).toNat 0)

/-- `40_math.md` R122: `COSPI` is the sine a quarter turn on, with no wrap of the argument. -/
def Obligations.CospiIsTheShiftedSine : Prop :=
  ∀ s : State, exec .cospi s = .next { s with mathRes := BitVec.ofInt 32 (sine (s.mathArg.toInt + 2 ^ 27)), mathExp := 0 }

/-- The table's symmetries carry over to the commands: the sine has period two half-turns, and at table points `SINPI` of
−X is minus `SINPI` of X (`21_rom_tables.md` R80: "The table is odd about index 128"). -/
def Obligations.SineIsPeriodicAndOddAtTablePoints : Prop :=
  (∀ x : Int, sinpi (x + 2 ^ 29) = sinpi x) ∧ (∀ n : Int, sinpi (-(n * 2 ^ 21)) = -sinpi (n * 2 ^ 21))

/-- `40_math.md` R123: `TAN` is the two-term polynomial, saturated to 32 bits. -/
def Obligations.TanIsTheSaturatedPolynomial : Prop :=
  ∀ s : State, exec .tan s = .next { s with
    mathRes := BitVec.ofInt 32 (sat (-2 ^ 31) (2 ^ 31 - 1) (tanPoly s.mathArg.toInt)), mathExp := 0 }

/-- R123, derived: the polynomial is increasing (strictly, where it does not saturate) and odd up to 2 units. -/
def Obligations.TanIsIncreasingAndNearlyOdd : Prop :=
  (∀ x y : Int, x < y → tanR x ≤ tanR y ∧ (-2 ^ 31 < tanR x → tanR y < 2 ^ 31 - 1 → tanR x < tanR y)) ∧
  (∀ x : Int, -2 ^ 31 ≤ x → x < 2 ^ 31 → |tanR (-x) + tanR x| ≤ 2)

/-- `40_math.md` R124: `EXP2`, its table index in range, its mantissa in [2^30, 2^31). -/
def Obligations.Exp2InterpolatesTheTable : Prop :=
  ∀ s : State,
    exec .exp2 s = .next { s with mathRes := BitVec.ofInt 32 (pow2 s.mathArg.toInt), mathExp := 0 } ∧
    (0 ≤ s.mathArg.toInt % 2 ^ 27 / 2 ^ 21 ∧ s.mathArg.toInt % 2 ^ 27 / 2 ^ 21 + 1 ≤ 64) ∧
    (2 ^ 30 ≤ pow2Mantissa s.mathArg.toInt ∧ pow2Mantissa s.mathArg.toInt < 2 ^ 31)

/-- R124, derived: `exp2` never falls as its argument grows, and saturates exactly from 14 on. -/
def Obligations.Exp2IsIncreasingAndSaturatesFrom14 : Prop :=
  (∀ x y : Int, -2 ^ 31 ≤ x → x ≤ y → y < 2 ^ 31 → exp2 x ≤ exp2 y) ∧
  (∀ x : Int, -2 ^ 31 ≤ x → x < 2 ^ 31 → (exp2 x = 2 ^ 32 - 1 ↔ 14 * 2 ^ 27 ≤ x))

/-- `40_math.md` R125: `N2F` reads the note in bits 15:0 and ignores bits 31:16. -/
def Obligations.N2fConvertsTheLowHalf : Prop :=
  ∀ s : State, exec .n2f s = .next { s with mathRes := BitVec.ofInt 32 (noteHz (s.mathArg.toNat % 2 ^ 16 : Nat)), mathExp := 0 }

/-- `40_math.md` R126: the reciprocal core, its index and its range, and where the ends of the range are taken. -/
def Obligations.ReciprocalCoreRange : Prop :=
  ∀ f : Int, 0 ≤ f → f ≤ 65535 →
    rcpm f = recip f ∧ (0 ≤ f / 2 ^ 9 ∧ f / 2 ^ 9 + 1 ≤ 128) ∧ 32768 ≤ rcpm f ∧ rcpm f ≤ 65536 ∧
      (rcpm f = 65536 ↔ f = 0) ∧ (rcpm f = 32768 ↔ 65533 ≤ f)

/-- `40_math.md` R127: `RCP1P` with `e` = floor(log2(1 + K)), 0 to 4. -/
def Obligations.Rcp1pNormalisesAndLooksUp : Prop :=
  ∀ s : State, ∃ e : Nat, e ≤ 4 ∧
    2 ^ (28 + e) ≤ s.mathArg.toNat + 2 ^ 28 ∧ s.mathArg.toNat + 2 ^ 28 < 2 ^ (29 + e) ∧
    exec .rcp1p s = .next { s with
      mathRes := BitVec.ofInt 32 (recip ((((s.mathArg.toNat : Int) + 2 ^ 28) / 2 ^ e - 2 ^ 28) / 2 ^ 12)),
      mathExp := BitVec.ofInt 32 (-(e : Int)) }

/-- `40_math.md` R128: `RCP1M` with `z` the binary orders of 1 − X below 1.0, 0 to 16; bits 31:16 are ignored. -/
def Obligations.Rcp1mNormalisesAndLooksUp : Prop :=
  ∀ s : State, ∃ z : Nat, z ≤ 16 ∧
    2 ^ 16 ≤ (65536 - s.mathArg.toNat % 2 ^ 16) * 2 ^ z ∧ (65536 - s.mathArg.toNat % 2 ^ 16) * 2 ^ z < 2 ^ 17 ∧
    exec .rcp1m s = .next { s with
      mathRes := BitVec.ofInt 32 (recip ((65536 - (s.mathArg.toNat % 2 ^ 16 : Nat) : Int) * 2 ^ z - 65536)),
      mathExp := BitVec.ofNat 32 z }

/-! ### OSC -/

/-- `41_oscillator.md` R150: one sample of an oscillator; every register but its six result and state registers is kept. -/
def Obligations.OscNextTakesOneSample : Prop :=
  (∀ (s : State) (u : Fin 2), Context s →
    let o := getOsc u s
    let r := oscAfter s.ctxRate o.note (syncOf o.syncIn) o
    exec (.oscNext (BitVec.ofNat 8 u)) s = .next (setOsc u { r.1 with syncOut := syncWord r.2 } s)) ∧
  ErrorsU 0x20 2 ∧ ErrorsNoContext 0x20

/-- `41_oscillator.md` R151: one sample of both oscillators on `OSC0_NOTE`, oscillator 0 first, its report consumed by
oscillator 1, which itself reports nothing; with `sync` = 0 the pair is `OSC.NEXT 0` then `OSC.NEXT 1` with both sync
inputs Off and oscillator 1's note taken from `OSC0_NOTE`. -/
def Obligations.OscPairTakesOneSampleOfBoth : Prop :=
  (∀ (s : State) (sync : Bool), Context s →
    let r0 := oscAfter s.ctxRate s.osc0.note (if sync then .primary else .off) s.osc0
    let r1 := oscAfter s.ctxRate s.osc0.note (if sync then r0.2 else .off) s.osc1
    exec (.oscPair sync) s = .next { s with
      osc0 := { r0.1 with syncOut := syncWord r0.2 }, osc1 := { r1.1 with syncOut := 0 } }) ∧
  (∀ s : State, s.status.getLsbD 0 = true →
    ∃ t t0 t1, exec (.oscPair false) s = .next t ∧
      exec (.oscNext 0) { s with osc0 := { s.osc0 with syncIn := 0 },
                                 osc1 := { s.osc1 with syncIn := 0, note := s.osc0.note } } = .next t0 ∧
      exec (.oscNext 1) t0 = .next t1 ∧
      t = { t1 with osc0 := { t1.osc0 with syncIn := s.osc0.syncIn },
                    osc1 := { t1.osc1 with syncIn := s.osc1.syncIn, note := s.osc1.note } }) ∧
  ErrorsP 0x21 ∧ ErrorsNoContext 0x21

/-- `41_oscillator.md` R148: the new phase and the waveforms of the primary do not depend on sync: `OSC.PAIR 1` and
`OSC.PAIR 0` leave oscillator 0 alike but for its report. -/
def Obligations.SyncLeavesThePrimaryAlone : Prop :=
  ∀ s : State, s.status.getLsbD 0 = true →
    ∃ t₁ t₀, exec (.oscPair true) s = .next t₁ ∧ exec (.oscPair false) s = .next t₀ ∧
      t₁.osc0 = { t₀.osc0 with syncOut := t₁.osc0.syncOut } ∧ t₀.osc0.syncOut = 0

/-- `41_oscillator.md` R152: an oscillator back at its default, in any context. -/
def Obligations.OscRstGivesTheDefault : Prop :=
  (∀ (s : State) (u : Fin 2), exec (.oscRst (BitVec.ofNat 8 u)) s =
    .next (setOsc u { getOsc u s with phase := 0, sin := 0, sq := 0, tri := 0, saw := 0, syncOut := 0 } s)) ∧
  ErrorsU 0x2F 2

/-- R145 and R148, derived: with shape 0 and no restart the stored phase advances by `d` and wraps once at +1. -/
def Obligations.ShapeZeroAdvancesByTheIncrement : Prop :=
  ∀ (s : State) (u : Fin 2), Context s → OscLegal (getOsc u s) → (getOsc u s).shape = 0 →
    (getOsc u s).syncIn.toNat / 2 ^ 16 ≠ 2 →
    ∃ t, exec (.oscNext (BitVec.ofNat 8 u)) s = .next t ∧
      let q := (getOsc u s).phase.toInt
      let d := noteHz (sat 0 65535 (((getOsc u s).note.toNat : Int) + (getOsc u s).tune.toInt)) * k2Of s.ctxRate / 2 ^ 20
      (getOsc u t).phase.toInt = if q + d < 2 ^ 28 then q + d else q + d - 2 ^ 29

/-! ### FILT -/

/-- `42_filter.md` R171, R172: one sample of the filter, with `(M, e)` the reciprocal of the denominator. -/
def Obligations.FiltNextTakesOneSample : Prop :=
  (∀ s : State, Context s →
    let rr := (filtGain s.ctxRate s.filt).1
    let g := (filtGain s.ctxRate s.filt).2
    let r := rcp1p (sat 0 (2 ^ 32 - 1) (g * g / 2 ^ 28 + g * rr / 2 ^ 15))
    exec .filtNext s = .next { s with filt := filtAfter rr g r.1 r.2 s.filt }) ∧
  ErrorsN 0x30 ∧ ErrorsNoContext 0x30

/-- `42_filter.md` R173: the filter back at its default, in any context. -/
def Obligations.FiltRstGivesTheDefault : Prop :=
  (∀ s : State, exec .filtRst s =
    .next { s with filt := { s.filt with zLow := 0, zBand := 0, low := 0, band := 0, high := 0 } }) ∧
  ErrorsN 0x3F

/-- `42_filter.md` R172: "`high` needs no `sat_s32`": for every numerator in the range of 32 bits the division by the
denominator stays in it, at every rate, cutoff and resonance. -/
def Obligations.FilterHighNeedsNoSaturation : Prop :=
  ∀ (rate : Word) (cutoff : Note) (res : Scalar) (num : Int), -2 ^ 31 ≤ num → num < 2 ^ 31 →
    let c := filtCoeffs rate (u16 cutoff) (u16 res)
    (-2 ^ 31 ≤ asr (num * c.m) (16 + c.e)) ∧ asr (num * c.m) (16 + c.e) < 2 ^ 31

/-! ### ENV -/

/-- `43_envelope.md` R187 to R190: one sample of an envelope, with the transition, the setpoint, the rise and the smoothing
law. -/
def Obligations.EnvNextTakesOneSample : Prop :=
  (∀ (s : State) (e : Fin 4), Context s →
    exec (.envNext (BitVec.ofNat 8 e)) s = .next (setEnv e (envAfter s.ctxRate (getEnv e s)) s)) ∧
  ErrorsU 0x40 4 ∧ ErrorsNoContext 0x40

/-- `43_envelope.md` R191: an envelope back at its default, in any context. -/
def Obligations.EnvRstGivesTheDefault : Prop :=
  (∀ (s : State) (e : Fin 4), exec (.envRst (BitVec.ofNat 8 e)) s =
    .next (setEnv e { getEnv e s with state := .release, last := 0x00008000, spPrev := 0x00008000, out := 0x0004 } s)) ∧
  ErrorsU 0x4F 4

/-- `43_envelope.md` R192, derived: from the second sample of a state on, the signal does not fall in Attack and does not
rise in Release. -/
def Obligations.EnvelopeIsMonotoneWithinAState : Prop :=
  ∀ (s : State) (e : Fin 4), s.status.getLsbD 0 = true → EnvLegal (getEnv e s) →
    ∃ t, exec (.envNext (BitVec.ofNat 8 e)) s = .next t ∧
      ((getEnv e t).state = .attack → (getEnv e s).spPrev = 0x1FFFE000 →
        (getEnv e s).last.toInt ≤ (getEnv e t).last.toInt ∧ (getEnv e s).out.toNat ≤ (getEnv e t).out.toNat) ∧
      ((getEnv e t).state = .release → (getEnv e s).spPrev = 0x00008000 →
        (getEnv e t).last.toInt ≤ (getEnv e s).last.toInt ∧ (getEnv e t).out.toNat ≤ (getEnv e s).out.toNat)

/-! ### LFO -/

/-- `44_lfo.md` R201, R202, R207, R210 to R214: one sample of an LFO. -/
def Obligations.LfoNextTakesOneSample : Prop :=
  (∀ (s : State) (l : Fin 2), Context s →
    exec (.lfoNext (BitVec.ofNat 8 l)) s = .next (setLfo l (lfoAfter s.ctxRate (getLfo l s)) s)) ∧
  ErrorsU 0x50 2 ∧ ErrorsNoContext 0x50

/-- `44_lfo.md` R205, R206: an LFO constructed from its seed, in any context; after reset an LFO is as seeded with 0. -/
def Obligations.LfoSeedConstructs : Prop :=
  (∀ (s : State) (l : Fin 2), ∃ t, exec (.lfoSeed (BitVec.ofNat 8 l)) s = .next t ∧
    generator (getLfo l t) =
      (let x := ((getLfo l s).seedHi.toNat * 2 ^ 32 + (getLfo l s).seedLo.toNat) ^^^ 0x9E3779B97F4A7C15
       if x = 0 then 0x9E3779B97F4A7C15 else x) ∧
    t = setLfo l { getLfo l s with
      phase := 0, prevGate := false, rand0 := 0, rand1 := 0, out := 0,
      prngHi := (getLfo l t).prngHi, prngLo := (getLfo l t).prngLo } s) ∧
  (∀ l : Fin 2, exec (.lfoSeed (BitVec.ofNat 8 l)) State.reset = .next State.reset) ∧
  ErrorsU 0x5F 2

/-- R203, derived: each generator step is invertible, so different states stay different and a non-zero state stays
non-zero. -/
def Obligations.GeneratorStepIsInvertible : Prop :=
  (∀ p q : Prng, prngStep p = prngStep q → p = q) ∧ (∀ p : Prng, p ≠ 0 → prngStep p ≠ 0)

/-- R205, derived, but for the one seed that R205 replaces: the first random sample after seeding depends only on bits
63:18 of the seed. -/
def Obligations.FirstSampleIgnoresLowSeedBits : Prop :=
  ∀ p q : Prng, p ≠ 0x9E3779B97F4A7C15 → q ≠ 0x9E3779B97F4A7C15 → p >>> 18 = q >>> 18 →
    prngSample (prngStep (seedState p)) = prngSample (prngStep (seedState q))

/-- `44_lfo.md` R202, R214: on the sample on which the gate rises with the retrigger bit set, the output is the waveform at
phase 0 and the phase goes on from 0, whatever the phase was; neither random sample and not the generator changes. -/
def Obligations.RetriggerRestartsThePhase : Prop :=
  ∀ (s s' : State) (l : Fin 2), Context s → s' = setLfo l { getLfo l s with phase := 0 } s →
    (getLfo l s).options.getLsbD 9 = true → 2048 < (getLfo l s).gate.toInt → (getLfo l s).prevGate = false →
    ∃ t, exec (.lfoNext (BitVec.ofNat 8 l)) s = .next t ∧ exec (.lfoNext (BitVec.ofNat 8 l)) s' = .next t ∧
      (getLfo l t).phase.toInt = (getLfo l s).freq.toNat * k1Of s.ctxRate / 2 ^ 11 ∧
      (getLfo l t).prevGate = true ∧ (getLfo l t).rand0 = (getLfo l s).rand0 ∧
      (getLfo l t).rand1 = (getLfo l s).rand1 ∧ generator (getLfo l t) = generator (getLfo l s)

/-! ### Accuracy of the math library -/

/-- `21_rom_tables.md` R85, `40_math.md` R129, derived: `SINPI` is within 1.5·10^−4 of sin(πX), for every argument. -/
def Obligations.SinpiIsAccurate : Prop :=
  ∀ s : State, ∃ t, exec .sinpi s = .next t ∧
    |(t.mathRes.toInt : ℝ) / 2 ^ 14 - Real.sin (Real.pi * ((s.mathArg.toInt : ℝ) / 2 ^ 28))| ≤ 1.5 / 10 ^ 4

/-- R85, R129, derived: `EXP2` is within 1.5·10^−5 relative of 2^X where the result is 1.0 or more and does not saturate
(X from 0 to below 14, R124). -/
def Obligations.Exp2IsAccurate : Prop :=
  ∀ s : State, 0 ≤ s.mathArg.toInt → s.mathArg.toInt < 14 * 2 ^ 27 → ∃ t, exec .exp2 s = .next t ∧
    |(t.mathRes.toNat : ℝ) / 2 ^ 18 - (2 : ℝ) ^ ((s.mathArg.toInt : ℝ) / 2 ^ 27)| ≤
      1.5 / 10 ^ 5 * (2 : ℝ) ^ ((s.mathArg.toInt : ℝ) / 2 ^ 27)

/-- R85, R129, derived: the reciprocal core, `RCP1P` and `RCP1M` are within 4.2·10^−5 relative of 1/(1 + f/65536), 1/(1 + K)
and 1/(1 − X), for every argument; the value of a result is `MATH_RES` · 2^(`MATH_EXP` − 16) (R127). -/
def Obligations.ReciprocalsAreAccurate : Prop :=
  (∀ f : Int, 0 ≤ f → f ≤ 65535 →
    |(rcpm f : ℚ) / 2 ^ 16 * (1 + (f : ℚ) / 65536) - 1| ≤ 4.2 / 10 ^ 5) ∧
  (∀ s : State, ∃ t, exec .rcp1p s = .next t ∧
    |(t.mathRes.toNat : ℚ) * (2 : ℚ) ^ (t.mathExp.toInt - 16) * (1 + (s.mathArg.toNat : ℚ) / 2 ^ 28) - 1| ≤
      4.2 / 10 ^ 5) ∧
  (∀ s : State, ∃ t, exec .rcp1m s = .next t ∧
    |(t.mathRes.toNat : ℚ) * (2 : ℚ) ^ (t.mathExp.toInt - 16) *
      (1 - ((s.mathArg.toNat % 2 ^ 16 : Nat) : ℚ) / 2 ^ 16) - 1| ≤ 4.2 / 10 ^ 5)

/-- R85, R129, derived: `N2F` is within 0.026 cent of 440·2^((N − 69)/12) Hz for every Note, and within 0.023 cent at the
integer notes. -/
def Obligations.N2fIsAccurate : Prop :=
  ∀ s : State, ∃ t, exec .n2f s = .next t ∧
    let n : Nat := s.mathArg.toNat % 2 ^ 16
    let cents : ℝ := 1200 * Real.logb 2
      ((t.mathRes.toNat : ℝ) / 2 ^ 18 / (440 * (2 : ℝ) ^ (((n : ℝ) / 512 - 69) / 12)))
    |cents| ≤ 0.026 ∧ (n % 512 = 0 → |cents| ≤ 0.023)
end

