-- ==== Sys2Proof/Laws/Arith.lean ====
section
/-! SUPPORT. What the pseudocode primitives (`00_scope.md` R10) can answer. -/

namespace Sys2Proof.Machine

theorem clamp_bounds (v lo hi : Int) (h : lo ≤ hi) : lo ≤ clamp v lo hi ∧ clamp v lo hi ≤ hi := by
  unfold clamp; split
  · omega
  · split <;> omega

theorem clamp_of_mem (v lo hi : Int) (h₁ : lo ≤ v) (h₂ : v ≤ hi) : clamp v lo hi = v := by
  unfold clamp; split
  · omega
  · split <;> omega

theorem satS16_bounds (v : Int) : -32768 ≤ satS16 v ∧ satS16 v ≤ 32767 := clamp_bounds _ _ _ (by decide)

theorem satU16_bounds (v : Int) : 0 ≤ satU16 v ∧ satU16 v ≤ 65535 := clamp_bounds _ _ _ (by decide)

theorem satS32_bounds (v : Int) : -2147483648 ≤ satS32 v ∧ satS32 v ≤ 2147483647 := clamp_bounds _ _ _ (by decide)

theorem satU32_bounds (v : Int) : 0 ≤ satU32 v ∧ satU32 v ≤ 4294967295 := clamp_bounds _ _ _ (by decide)

theorem u16_bounds (v : BitVec 16) : 0 ≤ u16 v ∧ u16 v ≤ 65535 := by
  have := v.isLt
  unfold u16; omega

theorem s16_bounds (v : BitVec 16) : -32768 ≤ s16 v ∧ s16 v ≤ 32767 := by
  have h₁ := BitVec.le_toInt v
  have h₂ := BitVec.toInt_lt (x := v)
  unfold s16; omega

theorem u32_bounds (v : Word) : 0 ≤ u32 v ∧ u32 v ≤ 4294967295 := by
  have := v.isLt
  unfold u32; omega

theorem s32_bounds (v : Word) : -2147483648 ≤ s32 v ∧ s32 v ≤ 2147483647 := by
  have h₁ := BitVec.le_toInt v
  have h₂ := BitVec.toInt_lt (x := v)
  unfold s32; omega

/-- Reading back a stored signed word. -/
theorem s32_to32 (v : Int) (h₁ : -2147483648 ≤ v) (h₂ : v ≤ 2147483647) : s32 (to32 v) = v := by
  unfold s32 to32
  rw [BitVec.toInt_ofInt, Int.bmod_def]
  split <;> omega

/-- Reading back a stored unsigned halfword. -/
theorem u16_to16 (v : Int) (h₁ : 0 ≤ v) (h₂ : v ≤ 65535) : u16 (to16 v) = v := by
  unfold u16 to16
  rw [BitVec.toNat_ofInt]
  omega

/-- Reading back a stored signed halfword. -/
theorem s16_to16 (v : Int) (h₁ : -32768 ≤ v) (h₂ : v ≤ 32767) : s16 (to16 v) = v := by
  unfold s16 to16
  rw [BitVec.toInt_ofInt, Int.bmod_def]
  split <;> omega

/-- `asr` keeps an interval that contains its ends' shifts. -/
theorem asr_bounds (v lo hi : Int) (n : Nat) (h₁ : lo * 2 ^ n ≤ v) (h₂ : v < (hi + 1) * 2 ^ n) :
    lo ≤ asr v n ∧ asr v n ≤ hi := by
  have hp : (0 : Int) < 2 ^ n := by positivity
  unfold asr
  exact ⟨(Int.le_ediv_iff_mul_le hp).2 h₁, Int.lt_add_one_iff.1 ((Int.ediv_lt_iff_lt_mul hp).2 h₂)⟩

theorem asr_mono (v w : Int) (n : Nat) (h : v ≤ w) : asr v n ≤ asr w n :=
  Int.ediv_le_ediv (by positivity) h

@[simp] theorem asr_zero (n : Nat) : asr 0 n = 0 := by simp [asr]

theorem asr_shl (v : Int) (n : Nat) : asr (shl v n) n = v := by
  unfold asr shl
  exact Int.mul_ediv_cancel _ (by positivity)

end Sys2Proof.Machine
end

