-- ==== Sys2Proof/Laws/Decode.lean ====
section
/-! SUPPORT. The fields of a command word and what decoding can answer (`30_encoding.md` R91, R96). -/

namespace Sys2Proof

@[simp] theorem opcField_commandWord (opc : BitVec 8) (unit : UnitIndex) (imm : BitVec 16) :
    opcField (commandWord opc unit imm) = opc := by
  refine BitVec.eq_of_getLsbD_eq fun k hk => ?_
  simp only [opcField, commandWord, BitVec.getLsbD_extractLsb', BitVec.getLsbD_append]
  have h₁ : ¬ 24 + k < 16 := by omega
  have h₂ : ¬ 24 + k - 16 < 8 := by omega
  have h₃ : 24 + k - 16 - 8 = k := by omega
  simp [h₁, h₂, h₃, hk]

@[simp] theorem unitField_commandWord (opc : BitVec 8) (unit : UnitIndex) (imm : BitVec 16) :
    unitField (commandWord opc unit imm) = unit := by
  refine BitVec.eq_of_getLsbD_eq fun k hk => ?_
  simp only [unitField, commandWord, BitVec.getLsbD_extractLsb', BitVec.getLsbD_append]
  have h₁ : ¬ 16 + k < 16 := by omega
  have h₂ : 16 + k - 16 < 8 := by omega
  have h₃ : 16 + k - 16 = k := by omega
  simp [h₁, h₃, hk]

@[simp] theorem immField_commandWord (opc : BitVec 8) (unit : UnitIndex) (imm : BitVec 16) :
    immField (commandWord opc unit imm) = imm := by
  refine BitVec.eq_of_getLsbD_eq fun k hk => ?_
  simp only [immField, commandWord, BitVec.getLsbD_extractLsb', BitVec.getLsbD_append]
  simp [hk]

/-- A word is made of its three fields. -/
theorem commandWord_fields (c : Word) : commandWord (opcField c) (unitField c) (immField c) = c := by
  refine BitVec.eq_of_getLsbD_eq fun k hk => ?_
  simp only [opcField, unitField, immField, commandWord, BitVec.getLsbD_append, BitVec.getLsbD_extractLsb']
  by_cases h₁ : k < 16
  · simp [h₁]
  · by_cases h₂ : k - 16 < 8
    · have h₃ : 16 + (k - 16) = k := by omega
      simp [h₁, h₂, h₃]
    · have h₃ : 24 + (k - 16 - 8) = k := by omega
      have h₄ : k - 16 - 8 < 8 := by omega
      simp [h₁, h₂, h₃, h₄]

/-- The unit check answers the command itself, well formed or not. -/
theorem checkUnit_cases (i : Instr) :
    (i.wellFormed = true ∧ checkUnit i = .command i) ∨ (i.wellFormed = false ∧ checkUnit i = .badUnit i) := by
  cases h : i.wellFormed
  · exact .inr ⟨rfl, by simp [checkUnit, h]⟩
  · exact .inl ⟨rfl, by simp [checkUnit, h]⟩

theorem decode_of_unassigned (c : Word) (h : opRow (opcField c) = none) : decode c = .illegal .unassigned := by
  simp [decode, h]

theorem decode_of_rowN (c : Word) (i : Instr) (h : opRow (opcField c) = some (.n i)) :
    decode c = if unitField c ≠ 0 ∨ immField c ≠ 0 then .illegal .reservedField else checkUnit i := by
  simp [decode, h]

theorem decode_of_rowU (c : Word) (make : UnitIndex → Instr) (h : opRow (opcField c) = some (.u make)) :
    decode c = if immField c ≠ 0 then .illegal .reservedField else checkUnit (make (unitField c)) := by
  simp [decode, h]

theorem decode_of_rowP (c : Word) (make : Bool → Instr) (h : opRow (opcField c) = some (.p make)) :
    decode c = if unitField c ≠ 0 ∨ (immField c).extractLsb' 1 15 ≠ 0 then .illegal .reservedField
      else checkUnit (make ((immField c).getLsbD 0)) := by
  simp [decode, h]

end Sys2Proof
end

