-- ==== Sys2Proof/Laws/State.lean ====
section
/-! SUPPORT. One lemma per field per named update of State, all true by rfl, and the get and set laws of the units. -/

namespace Sys2Proof.Machine

/-! ### report -/

@[simp] theorem report_ctxRate (e : ErrCause) (info : Word) (s : State) : (report e info s).ctxRate = s.ctxRate := rfl

@[simp] theorem report_status (e : ErrCause) (info : Word) (s : State) : (report e info s).status = recordCause e s.status := rfl

@[simp] theorem report_errInfo (e : ErrCause) (info : Word) (s : State) : (report e info s).errInfo = info := rfl

@[simp] theorem report_mathArg (e : ErrCause) (info : Word) (s : State) : (report e info s).mathArg = s.mathArg := rfl

@[simp] theorem report_mathRes (e : ErrCause) (info : Word) (s : State) : (report e info s).mathRes = s.mathRes := rfl

@[simp] theorem report_mathExp (e : ErrCause) (info : Word) (s : State) : (report e info s).mathExp = s.mathExp := rfl

@[simp] theorem report_osc0 (e : ErrCause) (info : Word) (s : State) : (report e info s).osc0 = s.osc0 := rfl

@[simp] theorem report_osc1 (e : ErrCause) (info : Word) (s : State) : (report e info s).osc1 = s.osc1 := rfl

@[simp] theorem report_filt (e : ErrCause) (info : Word) (s : State) : (report e info s).filt = s.filt := rfl

@[simp] theorem report_env0 (e : ErrCause) (info : Word) (s : State) : (report e info s).env0 = s.env0 := rfl

@[simp] theorem report_env1 (e : ErrCause) (info : Word) (s : State) : (report e info s).env1 = s.env1 := rfl

@[simp] theorem report_env2 (e : ErrCause) (info : Word) (s : State) : (report e info s).env2 = s.env2 := rfl

@[simp] theorem report_env3 (e : ErrCause) (info : Word) (s : State) : (report e info s).env3 = s.env3 := rfl

@[simp] theorem report_lfo0 (e : ErrCause) (info : Word) (s : State) : (report e info s).lfo0 = s.lfo0 := rfl

@[simp] theorem report_lfo1 (e : ErrCause) (info : Word) (s : State) : (report e info s).lfo1 = s.lfo1 := rfl

@[simp] theorem report_host (e : ErrCause) (info : Word) (s : State) : (report e info s).host = s.host := rfl

@[simp] theorem report_answers (e : ErrCause) (info : Word) (s : State) : (report e info s).answers = s.answers := rfl

/-! ### mathResult -/

@[simp] theorem mathResult_ctxRate (res exp : Int) (s : State) : (mathResult res exp s).ctxRate = s.ctxRate := rfl

@[simp] theorem mathResult_status (res exp : Int) (s : State) : (mathResult res exp s).status = s.status := rfl

@[simp] theorem mathResult_errInfo (res exp : Int) (s : State) : (mathResult res exp s).errInfo = s.errInfo := rfl

@[simp] theorem mathResult_mathArg (res exp : Int) (s : State) : (mathResult res exp s).mathArg = s.mathArg := rfl

@[simp] theorem mathResult_mathRes (res exp : Int) (s : State) : (mathResult res exp s).mathRes = to32 res := rfl

@[simp] theorem mathResult_mathExp (res exp : Int) (s : State) : (mathResult res exp s).mathExp = to32 exp := rfl

@[simp] theorem mathResult_osc0 (res exp : Int) (s : State) : (mathResult res exp s).osc0 = s.osc0 := rfl

@[simp] theorem mathResult_osc1 (res exp : Int) (s : State) : (mathResult res exp s).osc1 = s.osc1 := rfl

@[simp] theorem mathResult_filt (res exp : Int) (s : State) : (mathResult res exp s).filt = s.filt := rfl

@[simp] theorem mathResult_env0 (res exp : Int) (s : State) : (mathResult res exp s).env0 = s.env0 := rfl

@[simp] theorem mathResult_env1 (res exp : Int) (s : State) : (mathResult res exp s).env1 = s.env1 := rfl

@[simp] theorem mathResult_env2 (res exp : Int) (s : State) : (mathResult res exp s).env2 = s.env2 := rfl

@[simp] theorem mathResult_env3 (res exp : Int) (s : State) : (mathResult res exp s).env3 = s.env3 := rfl

@[simp] theorem mathResult_lfo0 (res exp : Int) (s : State) : (mathResult res exp s).lfo0 = s.lfo0 := rfl

@[simp] theorem mathResult_lfo1 (res exp : Int) (s : State) : (mathResult res exp s).lfo1 = s.lfo1 := rfl

@[simp] theorem mathResult_host (res exp : Int) (s : State) : (mathResult res exp s).host = s.host := rfl

@[simp] theorem mathResult_answers (res exp : Int) (s : State) : (mathResult res exp s).answers = s.answers := rfl

/-! ### answer -/

@[simp] theorem answer_ctxRate (d : Word) (s : State) : (answer d s).ctxRate = s.ctxRate := rfl

@[simp] theorem answer_status (d : Word) (s : State) : (answer d s).status = s.status := rfl

@[simp] theorem answer_errInfo (d : Word) (s : State) : (answer d s).errInfo = s.errInfo := rfl

@[simp] theorem answer_mathArg (d : Word) (s : State) : (answer d s).mathArg = s.mathArg := rfl

@[simp] theorem answer_mathRes (d : Word) (s : State) : (answer d s).mathRes = s.mathRes := rfl

@[simp] theorem answer_mathExp (d : Word) (s : State) : (answer d s).mathExp = s.mathExp := rfl

@[simp] theorem answer_osc0 (d : Word) (s : State) : (answer d s).osc0 = s.osc0 := rfl

@[simp] theorem answer_osc1 (d : Word) (s : State) : (answer d s).osc1 = s.osc1 := rfl

@[simp] theorem answer_filt (d : Word) (s : State) : (answer d s).filt = s.filt := rfl

@[simp] theorem answer_env0 (d : Word) (s : State) : (answer d s).env0 = s.env0 := rfl

@[simp] theorem answer_env1 (d : Word) (s : State) : (answer d s).env1 = s.env1 := rfl

@[simp] theorem answer_env2 (d : Word) (s : State) : (answer d s).env2 = s.env2 := rfl

@[simp] theorem answer_env3 (d : Word) (s : State) : (answer d s).env3 = s.env3 := rfl

@[simp] theorem answer_lfo0 (d : Word) (s : State) : (answer d s).lfo0 = s.lfo0 := rfl

@[simp] theorem answer_lfo1 (d : Word) (s : State) : (answer d s).lfo1 = s.lfo1 := rfl

@[simp] theorem answer_host (d : Word) (s : State) : (answer d s).host = s.host := rfl

@[simp] theorem answer_answers (d : Word) (s : State) : (answer d s).answers = s.answers ++ [d] := rfl

/-! ### hardwareReset -/

@[simp] theorem hardwareReset_ctxRate (s : State) : (hardwareReset s).ctxRate = State.reset.ctxRate := rfl

@[simp] theorem hardwareReset_status (s : State) : (hardwareReset s).status = State.reset.status := rfl

@[simp] theorem hardwareReset_errInfo (s : State) : (hardwareReset s).errInfo = State.reset.errInfo := rfl

@[simp] theorem hardwareReset_mathArg (s : State) : (hardwareReset s).mathArg = State.reset.mathArg := rfl

@[simp] theorem hardwareReset_mathRes (s : State) : (hardwareReset s).mathRes = State.reset.mathRes := rfl

@[simp] theorem hardwareReset_mathExp (s : State) : (hardwareReset s).mathExp = State.reset.mathExp := rfl

@[simp] theorem hardwareReset_osc0 (s : State) : (hardwareReset s).osc0 = State.reset.osc0 := rfl

@[simp] theorem hardwareReset_osc1 (s : State) : (hardwareReset s).osc1 = State.reset.osc1 := rfl

@[simp] theorem hardwareReset_filt (s : State) : (hardwareReset s).filt = State.reset.filt := rfl

@[simp] theorem hardwareReset_env0 (s : State) : (hardwareReset s).env0 = State.reset.env0 := rfl

@[simp] theorem hardwareReset_env1 (s : State) : (hardwareReset s).env1 = State.reset.env1 := rfl

@[simp] theorem hardwareReset_env2 (s : State) : (hardwareReset s).env2 = State.reset.env2 := rfl

@[simp] theorem hardwareReset_env3 (s : State) : (hardwareReset s).env3 = State.reset.env3 := rfl

@[simp] theorem hardwareReset_lfo0 (s : State) : (hardwareReset s).lfo0 = State.reset.lfo0 := rfl

@[simp] theorem hardwareReset_lfo1 (s : State) : (hardwareReset s).lfo1 = State.reset.lfo1 := rfl

@[simp] theorem hardwareReset_host (s : State) : (hardwareReset s).host = s.host := rfl

@[simp] theorem hardwareReset_answers (s : State) : (hardwareReset s).answers = s.answers := rfl

/-! ### setOsc -/

@[simp] theorem setOsc_ctxRate (u : Fin 2) (x : OscUnit) (s : State) : (setOsc u x s).ctxRate = s.ctxRate :=
  match u with | 0 => rfl | 1 => rfl

@[simp] theorem setOsc_status (u : Fin 2) (x : OscUnit) (s : State) : (setOsc u x s).status = s.status :=
  match u with | 0 => rfl | 1 => rfl

@[simp] theorem setOsc_errInfo (u : Fin 2) (x : OscUnit) (s : State) : (setOsc u x s).errInfo = s.errInfo :=
  match u with | 0 => rfl | 1 => rfl

@[simp] theorem setOsc_mathArg (u : Fin 2) (x : OscUnit) (s : State) : (setOsc u x s).mathArg = s.mathArg :=
  match u with | 0 => rfl | 1 => rfl

@[simp] theorem setOsc_mathRes (u : Fin 2) (x : OscUnit) (s : State) : (setOsc u x s).mathRes = s.mathRes :=
  match u with | 0 => rfl | 1 => rfl

@[simp] theorem setOsc_mathExp (u : Fin 2) (x : OscUnit) (s : State) : (setOsc u x s).mathExp = s.mathExp :=
  match u with | 0 => rfl | 1 => rfl

@[simp] theorem setOsc_filt (u : Fin 2) (x : OscUnit) (s : State) : (setOsc u x s).filt = s.filt :=
  match u with | 0 => rfl | 1 => rfl

@[simp] theorem setOsc_env0 (u : Fin 2) (x : OscUnit) (s : State) : (setOsc u x s).env0 = s.env0 :=
  match u with | 0 => rfl | 1 => rfl

@[simp] theorem setOsc_env1 (u : Fin 2) (x : OscUnit) (s : State) : (setOsc u x s).env1 = s.env1 :=
  match u with | 0 => rfl | 1 => rfl

@[simp] theorem setOsc_env2 (u : Fin 2) (x : OscUnit) (s : State) : (setOsc u x s).env2 = s.env2 :=
  match u with | 0 => rfl | 1 => rfl

@[simp] theorem setOsc_env3 (u : Fin 2) (x : OscUnit) (s : State) : (setOsc u x s).env3 = s.env3 :=
  match u with | 0 => rfl | 1 => rfl

@[simp] theorem setOsc_lfo0 (u : Fin 2) (x : OscUnit) (s : State) : (setOsc u x s).lfo0 = s.lfo0 :=
  match u with | 0 => rfl | 1 => rfl

@[simp] theorem setOsc_lfo1 (u : Fin 2) (x : OscUnit) (s : State) : (setOsc u x s).lfo1 = s.lfo1 :=
  match u with | 0 => rfl | 1 => rfl

@[simp] theorem setOsc_host (u : Fin 2) (x : OscUnit) (s : State) : (setOsc u x s).host = s.host :=
  match u with | 0 => rfl | 1 => rfl

@[simp] theorem setOsc_answers (u : Fin 2) (x : OscUnit) (s : State) : (setOsc u x s).answers = s.answers :=
  match u with | 0 => rfl | 1 => rfl

@[simp] theorem getOsc_setOsc_same (u : Fin 2) (x : OscUnit) (s : State) : getOsc u (setOsc u x s) = x :=
  match u with | 0 => rfl | 1 => rfl

@[simp] theorem setOsc_getOsc_same (u : Fin 2) (s : State) : setOsc u (getOsc u s) s = s :=
  match u with | 0 => rfl | 1 => rfl

theorem getOsc_setOsc_other (v w : Fin 2) (h : v ≠ w) (x : OscUnit) (s : State) : getOsc v (setOsc w x s) = getOsc v s := by
  fin_cases v <;> fin_cases w <;> first | rfl | exact absurd rfl h

@[simp] theorem getOsc_setEnv (v : Fin 2) (w : Fin 4) (x : EnvUnit) (s : State) : getOsc v (setEnv w x s) = getOsc v s := by
  fin_cases v <;> fin_cases w <;> rfl

@[simp] theorem getOsc_setLfo (v : Fin 2) (w : Fin 2) (x : LfoUnit) (s : State) : getOsc v (setLfo w x s) = getOsc v s := by
  fin_cases v <;> fin_cases w <;> rfl

@[simp] theorem getOsc_report (v : Fin 2) (e : ErrCause) (i : Word) (s : State) : getOsc v (report e i s) = getOsc v s := by
  fin_cases v <;> rfl

@[simp] theorem getOsc_answer (v : Fin 2) (d : Word) (s : State) : getOsc v (answer d s) = getOsc v s := by
  fin_cases v <;> rfl

@[simp] theorem getOsc_mathResult (v : Fin 2) (r x : Int) (s : State) : getOsc v (mathResult r x s) = getOsc v s := by
  fin_cases v <;> rfl

/-! ### setEnv -/

@[simp] theorem setEnv_ctxRate (e : Fin 4) (x : EnvUnit) (s : State) : (setEnv e x s).ctxRate = s.ctxRate :=
  match e with | 0 => rfl | 1 => rfl | 2 => rfl | 3 => rfl

@[simp] theorem setEnv_status (e : Fin 4) (x : EnvUnit) (s : State) : (setEnv e x s).status = s.status :=
  match e with | 0 => rfl | 1 => rfl | 2 => rfl | 3 => rfl

@[simp] theorem setEnv_errInfo (e : Fin 4) (x : EnvUnit) (s : State) : (setEnv e x s).errInfo = s.errInfo :=
  match e with | 0 => rfl | 1 => rfl | 2 => rfl | 3 => rfl

@[simp] theorem setEnv_mathArg (e : Fin 4) (x : EnvUnit) (s : State) : (setEnv e x s).mathArg = s.mathArg :=
  match e with | 0 => rfl | 1 => rfl | 2 => rfl | 3 => rfl

@[simp] theorem setEnv_mathRes (e : Fin 4) (x : EnvUnit) (s : State) : (setEnv e x s).mathRes = s.mathRes :=
  match e with | 0 => rfl | 1 => rfl | 2 => rfl | 3 => rfl

@[simp] theorem setEnv_mathExp (e : Fin 4) (x : EnvUnit) (s : State) : (setEnv e x s).mathExp = s.mathExp :=
  match e with | 0 => rfl | 1 => rfl | 2 => rfl | 3 => rfl

@[simp] theorem setEnv_osc0 (e : Fin 4) (x : EnvUnit) (s : State) : (setEnv e x s).osc0 = s.osc0 :=
  match e with | 0 => rfl | 1 => rfl | 2 => rfl | 3 => rfl

@[simp] theorem setEnv_osc1 (e : Fin 4) (x : EnvUnit) (s : State) : (setEnv e x s).osc1 = s.osc1 :=
  match e with | 0 => rfl | 1 => rfl | 2 => rfl | 3 => rfl

@[simp] theorem setEnv_filt (e : Fin 4) (x : EnvUnit) (s : State) : (setEnv e x s).filt = s.filt :=
  match e with | 0 => rfl | 1 => rfl | 2 => rfl | 3 => rfl

@[simp] theorem setEnv_lfo0 (e : Fin 4) (x : EnvUnit) (s : State) : (setEnv e x s).lfo0 = s.lfo0 :=
  match e with | 0 => rfl | 1 => rfl | 2 => rfl | 3 => rfl

@[simp] theorem setEnv_lfo1 (e : Fin 4) (x : EnvUnit) (s : State) : (setEnv e x s).lfo1 = s.lfo1 :=
  match e with | 0 => rfl | 1 => rfl | 2 => rfl | 3 => rfl

@[simp] theorem setEnv_host (e : Fin 4) (x : EnvUnit) (s : State) : (setEnv e x s).host = s.host :=
  match e with | 0 => rfl | 1 => rfl | 2 => rfl | 3 => rfl

@[simp] theorem setEnv_answers (e : Fin 4) (x : EnvUnit) (s : State) : (setEnv e x s).answers = s.answers :=
  match e with | 0 => rfl | 1 => rfl | 2 => rfl | 3 => rfl

@[simp] theorem getEnv_setEnv_same (e : Fin 4) (x : EnvUnit) (s : State) : getEnv e (setEnv e x s) = x :=
  match e with | 0 => rfl | 1 => rfl | 2 => rfl | 3 => rfl

@[simp] theorem setEnv_getEnv_same (e : Fin 4) (s : State) : setEnv e (getEnv e s) s = s :=
  match e with | 0 => rfl | 1 => rfl | 2 => rfl | 3 => rfl

theorem getEnv_setEnv_other (v w : Fin 4) (h : v ≠ w) (x : EnvUnit) (s : State) : getEnv v (setEnv w x s) = getEnv v s := by
  fin_cases v <;> fin_cases w <;> first | rfl | exact absurd rfl h

@[simp] theorem getEnv_setOsc (v : Fin 4) (w : Fin 2) (x : OscUnit) (s : State) : getEnv v (setOsc w x s) = getEnv v s := by
  fin_cases v <;> fin_cases w <;> rfl

@[simp] theorem getEnv_setLfo (v : Fin 4) (w : Fin 2) (x : LfoUnit) (s : State) : getEnv v (setLfo w x s) = getEnv v s := by
  fin_cases v <;> fin_cases w <;> rfl

@[simp] theorem getEnv_report (v : Fin 4) (e : ErrCause) (i : Word) (s : State) : getEnv v (report e i s) = getEnv v s := by
  fin_cases v <;> rfl

@[simp] theorem getEnv_answer (v : Fin 4) (d : Word) (s : State) : getEnv v (answer d s) = getEnv v s := by
  fin_cases v <;> rfl

@[simp] theorem getEnv_mathResult (v : Fin 4) (r x : Int) (s : State) : getEnv v (mathResult r x s) = getEnv v s := by
  fin_cases v <;> rfl

/-! ### setLfo -/

@[simp] theorem setLfo_ctxRate (l : Fin 2) (x : LfoUnit) (s : State) : (setLfo l x s).ctxRate = s.ctxRate :=
  match l with | 0 => rfl | 1 => rfl

@[simp] theorem setLfo_status (l : Fin 2) (x : LfoUnit) (s : State) : (setLfo l x s).status = s.status :=
  match l with | 0 => rfl | 1 => rfl

@[simp] theorem setLfo_errInfo (l : Fin 2) (x : LfoUnit) (s : State) : (setLfo l x s).errInfo = s.errInfo :=
  match l with | 0 => rfl | 1 => rfl

@[simp] theorem setLfo_mathArg (l : Fin 2) (x : LfoUnit) (s : State) : (setLfo l x s).mathArg = s.mathArg :=
  match l with | 0 => rfl | 1 => rfl

@[simp] theorem setLfo_mathRes (l : Fin 2) (x : LfoUnit) (s : State) : (setLfo l x s).mathRes = s.mathRes :=
  match l with | 0 => rfl | 1 => rfl

@[simp] theorem setLfo_mathExp (l : Fin 2) (x : LfoUnit) (s : State) : (setLfo l x s).mathExp = s.mathExp :=
  match l with | 0 => rfl | 1 => rfl

@[simp] theorem setLfo_osc0 (l : Fin 2) (x : LfoUnit) (s : State) : (setLfo l x s).osc0 = s.osc0 :=
  match l with | 0 => rfl | 1 => rfl

@[simp] theorem setLfo_osc1 (l : Fin 2) (x : LfoUnit) (s : State) : (setLfo l x s).osc1 = s.osc1 :=
  match l with | 0 => rfl | 1 => rfl

@[simp] theorem setLfo_filt (l : Fin 2) (x : LfoUnit) (s : State) : (setLfo l x s).filt = s.filt :=
  match l with | 0 => rfl | 1 => rfl

@[simp] theorem setLfo_env0 (l : Fin 2) (x : LfoUnit) (s : State) : (setLfo l x s).env0 = s.env0 :=
  match l with | 0 => rfl | 1 => rfl

@[simp] theorem setLfo_env1 (l : Fin 2) (x : LfoUnit) (s : State) : (setLfo l x s).env1 = s.env1 :=
  match l with | 0 => rfl | 1 => rfl

@[simp] theorem setLfo_env2 (l : Fin 2) (x : LfoUnit) (s : State) : (setLfo l x s).env2 = s.env2 :=
  match l with | 0 => rfl | 1 => rfl

@[simp] theorem setLfo_env3 (l : Fin 2) (x : LfoUnit) (s : State) : (setLfo l x s).env3 = s.env3 :=
  match l with | 0 => rfl | 1 => rfl

@[simp] theorem setLfo_host (l : Fin 2) (x : LfoUnit) (s : State) : (setLfo l x s).host = s.host :=
  match l with | 0 => rfl | 1 => rfl

@[simp] theorem setLfo_answers (l : Fin 2) (x : LfoUnit) (s : State) : (setLfo l x s).answers = s.answers :=
  match l with | 0 => rfl | 1 => rfl

@[simp] theorem getLfo_setLfo_same (l : Fin 2) (x : LfoUnit) (s : State) : getLfo l (setLfo l x s) = x :=
  match l with | 0 => rfl | 1 => rfl

@[simp] theorem setLfo_getLfo_same (l : Fin 2) (s : State) : setLfo l (getLfo l s) s = s :=
  match l with | 0 => rfl | 1 => rfl

theorem getLfo_setLfo_other (v w : Fin 2) (h : v ≠ w) (x : LfoUnit) (s : State) : getLfo v (setLfo w x s) = getLfo v s := by
  fin_cases v <;> fin_cases w <;> first | rfl | exact absurd rfl h

@[simp] theorem getLfo_setOsc (v : Fin 2) (w : Fin 2) (x : OscUnit) (s : State) : getLfo v (setOsc w x s) = getLfo v s := by
  fin_cases v <;> fin_cases w <;> rfl

@[simp] theorem getLfo_setEnv (v : Fin 2) (w : Fin 4) (x : EnvUnit) (s : State) : getLfo v (setEnv w x s) = getLfo v s := by
  fin_cases v <;> fin_cases w <;> rfl

@[simp] theorem getLfo_report (v : Fin 2) (e : ErrCause) (i : Word) (s : State) : getLfo v (report e i s) = getLfo v s := by
  fin_cases v <;> rfl

@[simp] theorem getLfo_answer (v : Fin 2) (d : Word) (s : State) : getLfo v (answer d s) = getLfo v s := by
  fin_cases v <;> rfl

@[simp] theorem getLfo_mathResult (v : Fin 2) (r x : Int) (s : State) : getLfo v (mathResult r x s) = getLfo v s := by
  fin_cases v <;> rfl

end Sys2Proof.Machine
end

