-- ==== Sys2Proof/Laws/Ops.lean ====
section
/-! SUPPORT. What each shared operation can do, said once: the status fields, the recording of an error, the two checks
of a command, the host's transactions and the step. -/

namespace Sys2Proof.Machine

/-! ### STATUS fields -/

/-- Every bit of `STATUS` after an error is recorded (`60_exceptions.md` R242). -/
theorem getLsbD_recordCause (e : ErrCause) (st : BitVec 13) (k : Nat) (hk : k < 13) :
    (recordCause e st).getLsbD k =
      if k = causeBit e then true
      else if 4 ≤ k ∧ k < 8 then (causeCode e).getLsbD (k - 4) else st.getLsbD k := by
  cases e <;> interval_cases k <;> simp [recordCause, causeBit, causeCode]

/-- Every bit of `STATUS` after a context is made (`45_system.md` R224). -/
theorem getLsbD_setCtxValid (st : BitVec 13) (k : Nat) (hk : k < 13) :
    (setCtxValid st).getLsbD k = if k = 0 then true else st.getLsbD k := by
  interval_cases k <;> simp [setCtxValid]

@[simp] theorem ctxValid_recordCause (e : ErrCause) (st : BitVec 13) : ctxValid (recordCause e st) = ctxValid st := by
  unfold ctxValid
  rw [getLsbD_recordCause e st 0 (by decide)]
  cases e <;> simp [causeBit]

@[simp] theorem lastCause_recordCause (e : ErrCause) (st : BitVec 13) :
    lastCause (recordCause e st) = causeCode e := by
  refine BitVec.eq_of_getLsbD_eq fun k hk => ?_
  simp only [lastCause, BitVec.getLsbD_extractLsb', hk, decide_true, Bool.true_and]
  rw [getLsbD_recordCause e st (4 + k) (by omega)]
  have h : 4 + k ≠ causeBit e := by cases e <;> simp [causeBit] <;> omega
  have h8 : ¬ 8 ≤ 4 + k := by omega
  simp [h, hk, h8]

theorem errBit_recordCause (e f : ErrCause) (st : BitVec 13) :
    errBit f (recordCause e st) = (decide (f = e) || errBit f st) := by
  unfold errBit
  rw [getLsbD_recordCause e st (causeBit f) (by cases f <;> decide)]
  cases e <;> cases f <;> simp [causeBit]

@[simp] theorem ctxValid_setCtxValid (st : BitVec 13) : ctxValid (setCtxValid st) = true := by
  unfold ctxValid
  rw [getLsbD_setCtxValid st 0 (by decide)]; rfl

@[simp] theorem errBit_setCtxValid (f : ErrCause) (st : BitVec 13) : errBit f (setCtxValid st) = errBit f st := by
  unfold errBit
  rw [getLsbD_setCtxValid st (causeBit f) (by cases f <;> decide)]
  cases f <;> simp [causeBit]

@[simp] theorem lastCause_setCtxValid (st : BitVec 13) : lastCause (setCtxValid st) = lastCause st := by
  refine BitVec.eq_of_getLsbD_eq fun k hk => ?_
  simp only [lastCause, BitVec.getLsbD_extractLsb', hk, decide_true, Bool.true_and]
  rw [getLsbD_setCtxValid st (4 + k) (by omega)]
  simp

/-! ### The checks of a command -/

theorem onUnit_of_lt {count : Nat} (i : Instr) (u : UnitIndex) (body : Fin count → State → State) (s : State)
    (h : u.toNat < count) : onUnit count i u body s = body ⟨u.toNat, h⟩ s := by simp [onUnit, h]

theorem onUnit_of_ge {count : Nat} (i : Instr) (u : UnitIndex) (body : Fin count → State → State) (s : State)
    (h : count ≤ u.toNat) : onUnit count i u body s = report .unit (encode i) s := by
  simp [onUnit, Nat.not_lt.2 h]

/-- All that the unit check can do. -/
theorem onUnit_cases {count : Nat} (i : Instr) (u : UnitIndex) (body : Fin count → State → State) (s : State) :
    (∃ h : u.toNat < count, onUnit count i u body s = body ⟨u.toNat, h⟩ s) ∨
      (count ≤ u.toNat ∧ onUnit count i u body s = report .unit (encode i) s) := by
  by_cases h : u.toNat < count
  · exact .inl ⟨h, onUnit_of_lt i u body s h⟩
  · exact .inr ⟨Nat.not_lt.1 h, onUnit_of_ge i u body s (Nat.not_lt.1 h)⟩

theorem inContext_of_valid (i : Instr) (body : State → State) (s : State) (h : ctxValid s.status = true) :
    inContext i body s = body s := by simp [inContext, h]

theorem inContext_of_invalid (i : Instr) (body : State → State) (s : State) (h : ctxValid s.status = false) :
    inContext i body s = report .noCtx (encode i) s := by simp [inContext, h]

/-- All that the context check can do. -/
theorem inContext_cases (i : Instr) (body : State → State) (s : State) :
    (ctxValid s.status = true ∧ inContext i body s = body s) ∨
      (ctxValid s.status = false ∧ inContext i body s = report .noCtx (encode i) s) := by
  cases h : ctxValid s.status
  · exact .inr ⟨rfl, inContext_of_invalid i body s h⟩
  · exact .inl ⟨rfl, inContext_of_valid i body s h⟩

/-! ### The host's transactions -/

/-- All that a checked write of `CTX_RATE` can do (`45_system.md` R224). -/
theorem writeCtxRate_cases (d : Word) (s : State) :
    ((d = 44100 ∨ d = 48000) ∧ writeCtxRate d s = { s with ctxRate := d, status := setCtxValid s.status }) ∨
      (d ≠ 44100 ∧ d ≠ 48000 ∧ writeCtxRate d s = report .rate d s) := by
  by_cases h : d = 44100 ∨ d = 48000
  · exact .inl ⟨h, if_pos h⟩
  · exact .inr ⟨fun h' => h (.inl h'), fun h' => h (.inr h'), if_neg h⟩

/-- All that performing a command word can do (`45_system.md` R220). -/
theorem perform_cases (c : Word) (s : State) :
    (∃ why, decode c = .illegal why ∧ perform c s = .next (report .cmd c s)) ∨
      (∃ i, decode c = .badUnit i ∧ perform c s = .next (report .unit c s)) ∨
      (∃ i, decode c = .command i ∧ perform c s = exec i s) := by
  cases h : decode c with
  | illegal why => exact .inl ⟨why, rfl, by simp [perform, h]⟩
  | badUnit i => exact .inr (.inl ⟨i, rfl, by simp [perform, h]⟩)
  | command i => exact .inr (.inr ⟨i, rfl, by simp [perform, h]⟩)

/-- All that a host write can do (`20_memory.md` R61). -/
theorem hostWrite_cases (a : RegNum) (d : Word) (s : State) :
    (regAt a = none ∧ hostWrite a d s = .next (report .addr (writeInfo a) s)) ∨
      (∃ r, regAt a = some r ∧ r.access = .ro ∧ hostWrite a d s = .next (report .addr (writeInfo a) s)) ∨
      (∃ r, regAt a = some r ∧ r.access = .wo ∧ hostWrite a d s = perform d s) ∨
      (∃ r, regAt a = some r ∧ r.access = .rwChecked ∧ hostWrite a d s = .next (writeCtxRate d s)) ∨
      (∃ r, regAt a = some r ∧ r.access = .rw ∧ hostWrite a d s = .next (writeReg r d s)) := by
  cases h : regAt a with
  | none => exact .inl ⟨rfl, by simp [hostWrite, h]⟩
  | some r =>
    cases ha : r.access with
    | ro => exact .inr (.inl ⟨r, rfl, ha, by simp [hostWrite, h, ha]⟩)
    | wo => exact .inr (.inr (.inl ⟨r, rfl, ha, by simp [hostWrite, h, ha]⟩))
    | rwChecked => exact .inr (.inr (.inr (.inl ⟨r, rfl, ha, by simp [hostWrite, h, ha]⟩)))
    | rw => exact .inr (.inr (.inr (.inr ⟨r, rfl, ha, by simp [hostWrite, h, ha]⟩)))

/-- All that a host read can do (`20_memory.md` R61). -/
theorem hostRead_cases (a : RegNum) (s : State) :
    (hostRead a s = answer 0 (report .addr (readInfo a) s) ∧
        (regAt a = none ∨ ∃ r, regAt a = some r ∧ r.access = .wo)) ∨
      (∃ r, regAt a = some r ∧ r.access ≠ .wo ∧ hostRead a s = answer (readReg r s) s) := by
  cases h : regAt a with
  | none => exact .inl ⟨by simp [hostRead, h], .inl rfl⟩
  | some r =>
    by_cases ha : r.access = .wo
    · exact .inl ⟨by simp [hostRead, h, ha], .inr ⟨r, rfl, ha⟩⟩
    · exact .inr ⟨r, rfl, ha, by simp [hostRead, h, ha]⟩

theorem step_of_nil (s : State) (h : s.host = []) : step s = .next s := by simp [step, takeEvent, h]

theorem step_of_cons (s : State) (e : HostEvent) (rest : List HostEvent) (h : s.host = e :: rest) :
    step s = deliver e { s with host := rest } := by simp [step, takeEvent, h]

end Sys2Proof.Machine
end

