-- ==== Sys2Proof/Laws/PerInstr.lean ====
section
/-! SUPPORT. A statement made once per command: the three fields of its word (`30_encoding.md` R91, R93). -/

namespace Sys2Proof.Laws.WordFields

/-- The fields of a command's word: a code of R93, the unit index (0 where the format has none) and the immediate (the
`sync` bit for `OSC.PAIR`, else 0). -/
def Statement (i : Instr) : Prop :=
  (opRow (opcField (encode i))).isSome = true ∧
    unitField (encode i) = (i.unitOf.map (·.1)).getD 0 ∧
    immField (encode i) = (if i = .oscPair true then 1 else 0)

/-- The three fields of a word that is written from them. -/
theorem of_commandWord (i : Instr) (opc : BitVec 8) (unit : UnitIndex) (imm : BitVec 16)
    (h : encode i = commandWord opc unit imm) (ho : (opRow opc).isSome = true)
    (hu : unit = (i.unitOf.map (·.1)).getD 0) (hi : imm = if i = .oscPair true then 1 else 0) : Statement i := by
  unfold Statement
  rw [h, opcField_commandWord, unitField_commandWord, immField_commandWord]
  exact ⟨ho, hu, hi⟩

theorem nop : Statement .nop := of_commandWord _ 0x00 0 0 rfl rfl rfl rfl

theorem sinpi : Statement .sinpi := of_commandWord _ 0x10 0 0 rfl rfl rfl rfl

theorem cospi : Statement .cospi := of_commandWord _ 0x11 0 0 rfl rfl rfl rfl

theorem tan : Statement .tan := of_commandWord _ 0x12 0 0 rfl rfl rfl rfl

theorem exp2 : Statement .exp2 := of_commandWord _ 0x13 0 0 rfl rfl rfl rfl

theorem rcp1p : Statement .rcp1p := of_commandWord _ 0x14 0 0 rfl rfl rfl rfl

theorem rcp1m : Statement .rcp1m := of_commandWord _ 0x15 0 0 rfl rfl rfl rfl

theorem n2f : Statement .n2f := of_commandWord _ 0x16 0 0 rfl rfl rfl rfl

theorem oscNext (u : UnitIndex) : Statement (.oscNext u) := of_commandWord _ 0x20 u 0 rfl rfl rfl rfl

theorem oscPair : (sync : Bool) → Statement (.oscPair sync)
  | false => of_commandWord _ 0x21 0 0 rfl rfl rfl rfl
  | true => of_commandWord _ 0x21 0 1 rfl rfl rfl rfl

theorem oscRst (u : UnitIndex) : Statement (.oscRst u) := of_commandWord _ 0x2F u 0 rfl rfl rfl rfl

theorem filtNext : Statement .filtNext := of_commandWord _ 0x30 0 0 rfl rfl rfl rfl

theorem filtRst : Statement .filtRst := of_commandWord _ 0x3F 0 0 rfl rfl rfl rfl

theorem envNext (u : UnitIndex) : Statement (.envNext u) := of_commandWord _ 0x40 u 0 rfl rfl rfl rfl

theorem envRst (u : UnitIndex) : Statement (.envRst u) := of_commandWord _ 0x4F u 0 rfl rfl rfl rfl

theorem lfoNext (u : UnitIndex) : Statement (.lfoNext u) := of_commandWord _ 0x50 u 0 rfl rfl rfl rfl

theorem lfoSeed (u : UnitIndex) : Statement (.lfoSeed u) := of_commandWord _ 0x5F u 0 rfl rfl rfl rfl

end Sys2Proof.Laws.WordFields
end

