-- ==== Sys2Proof/Laws/Units.lean ====
section
/-! SUPPORT. Ranges of the units' shared functions. -/

namespace Sys2Proof.Machine

/-- The floored linear interpolation of the tables stays between its two entries (rising entries). -/
theorem lerp_bounds_up (a b f : Int) (n : Nat) (hab : a ≤ b) (h₀ : 0 ≤ f) (h₁ : f < 2 ^ n) :
    a ≤ a + asr ((b - a) * f) n ∧ a + asr ((b - a) * f) n ≤ b := by
  have hd : 0 ≤ b - a := by omega
  have := asr_bounds ((b - a) * f) 0 (b - a) n (by simpa using Int.mul_nonneg hd h₀) (by nlinarith)
  omega

/-- The floored linear interpolation of the tables stays between its two entries (falling entries). -/
theorem lerp_bounds_down (a b f : Int) (n : Nat) (hab : b ≤ a) (h₀ : 0 ≤ f) (h₁ : f < 2 ^ n) :
    b ≤ a + asr ((b - a) * f) n ∧ a + asr ((b - a) * f) n ≤ a := by
  have := asr_bounds ((b - a) * f) (b - a) 0 n (by nlinarith) (by nlinarith)
  omega

/-- The final reduction of R148 (e) lands in [−2^28, 2^28). -/
theorem reducePhase_bounds (v : Int) : -268435456 ≤ reducePhase v ∧ reducePhase v ≤ 268435455 := by
  unfold reducePhase; omega

/-- The reduction leaves a phase already in [−2^28, 2^28) alone. -/
theorem reducePhase_of_mem (v : Int) (h₁ : -268435456 ≤ v) (h₂ : v ≤ 268435455) : reducePhase v = v := by
  unfold reducePhase; omega

/-- A sync output is never `Primary` (R148). -/
theorem advance_syncOut (r : OscRates) (q : Int) (sync : OscSync) :
    (advance r q sync).2 = .off ∨ ∃ c, (advance r q sync).2 = .secondary c := by
  cases sync with
  | secondary c => exact .inl rfl
  | off =>
    simp only [advance, advanceRaw]
    split
    · split <;> exact .inl rfl
    · exact .inl rfl
  | primary =>
    simp only [advance, advanceRaw]
    split
    · split
      · exact .inr ⟨_, rfl⟩
      · exact .inl rfl
    · exact .inl rfl

/-- The setpoint of every state is inside the signal range (R187). -/
theorem envSetpoint_bounds (st : EnvState) (sustain : Int) :
    32768 ≤ envSetpoint st sustain ∧ envSetpoint st sustain ≤ 536862720 := by
  cases st with
  | release => simp [envSetpoint, signalMin]
  | attack => simp [envSetpoint, signalMax]
  | decay => exact clamp_bounds _ _ _ (by decide)

/-- The smoothing law stays inside the signal range (R188). -/
theorem envSmooth_bounds (rate : Word) (rise spPrev sp last : Int) :
    32768 ≤ envSmooth rate rise spPrev sp last ∧ envSmooth rate rise spPrev sp last ≤ 536862720 :=
  clamp_bounds _ _ _ (by decide)

/-- `K1` is a 16-bit constant. -/
theorem k1_bounds (rate : Word) : 0 ≤ k1 rate ∧ k1 rate ≤ 65535 := by
  unfold k1; split
  · decide
  · split
    · decide
    · exact u16_bounds _

/-- Splitting a generator state over its two registers loses nothing. -/
@[simp] theorem lfoPrng_setPrng (p : Prng) (l : LfoUnit) : lfoPrng (setPrng p l) = p := by
  refine BitVec.eq_of_getLsbD_eq fun k hk => ?_
  simp only [lfoPrng, setPrng, BitVec.getLsbD_append, BitVec.getLsbD_extractLsb']
  by_cases h : k < 32
  · simp [h]
  · have h₁ : 32 + (k - 32) = k := by omega
    have h₂ : k - 32 < 32 := by omega
    simp [h, h₁, h₂]

/-- A seeded generator is never at zero (R205). -/
theorem seedState_ne_zero (seed : Prng) : seedState seed ≠ 0 := by
  unfold seedState
  dsimp only
  split
  · decide
  · assumption

end Sys2Proof.Machine
end

