-- ==== Sys2Proof/Tests/Slice0.lean ====
section
/-! SUPPORT. The model's own tests. Expected values come from `95_test_vectors.md` (the vector is named in each
docstring); the last part shows, for each obligation with hypotheses, concrete values that meet them. -/

namespace Sys2Proof.Tests

open Sys2Proof.Machine Sys2Proof.Claims

/-! ### WellFormed: an ill-formed command for each check -/

/-- There is no oscillator 2, and there is an oscillator 1. -/
theorem test_wellFormed_osc :
    (Instr.oscNext 2).wellFormed = false ∧ (Instr.oscRst 2).wellFormed = false ∧
      (Instr.oscNext 1).wellFormed = true ∧ (Instr.oscRst 1).wellFormed = true := by decide

/-- There is no envelope 4, and there is an envelope 3. -/
theorem test_wellFormed_env :
    (Instr.envNext 4).wellFormed = false ∧ (Instr.envRst 4).wellFormed = false ∧
      (Instr.envNext 3).wellFormed = true ∧ (Instr.envRst 3).wellFormed = true := by decide

/-- There is no LFO 2 and no LFO 255, and there is an LFO 1. -/
theorem test_wellFormed_lfo :
    (Instr.lfoNext 2).wellFormed = false ∧ (Instr.lfoSeed 255).wellFormed = false ∧
      (Instr.lfoNext 1).wellFormed = true ∧ (Instr.lfoSeed 1).wellFormed = true := by decide

/-! ### Decoding: every command's word, written out (`30_encoding.md` R91, R93; vectors 2.7) -/

theorem test_decode_nop : decode 0x00000000 = .command .nop := by decide

theorem test_decode_sinpi : decode 0b00010000000000000000000000000000 = .command .sinpi := by decide

theorem test_decode_cospi : decode 0b00010001000000000000000000000000 = .command .cospi := by decide

theorem test_decode_tan : decode 0b00010010000000000000000000000000 = .command .tan := by decide

theorem test_decode_exp2 : decode 0b00010011000000000000000000000000 = .command .exp2 := by decide

theorem test_decode_rcp1p : decode 0b00010100000000000000000000000000 = .command .rcp1p := by decide

theorem test_decode_rcp1m : decode 0b00010101000000000000000000000000 = .command .rcp1m := by decide

theorem test_decode_n2f : decode 0b00010110000000000000000000000000 = .command .n2f := by decide

theorem test_decode_oscNext : decode 0b00100000000000010000000000000000 = .command (.oscNext 1) := by decide

theorem test_decode_oscPair :
    decode 0b00100001000000000000000000000001 = .command (.oscPair true) ∧
      decode 0b00100001000000000000000000000000 = .command (.oscPair false) := by decide

theorem test_decode_oscRst : decode 0b00101111000000010000000000000000 = .command (.oscRst 1) := by decide

theorem test_decode_filtNext : decode 0b00110000000000000000000000000000 = .command .filtNext := by decide

theorem test_decode_filtRst : decode 0b00111111000000000000000000000000 = .command .filtRst := by decide

theorem test_decode_envNext : decode 0b01000000000000110000000000000000 = .command (.envNext 3) := by decide

theorem test_decode_envRst : decode 0b01001111000000100000000000000000 = .command (.envRst 2) := by decide

theorem test_decode_lfoNext : decode 0b01010000000000010000000000000000 = .command (.lfoNext 1) := by decide

theorem test_decode_lfoSeed : decode 0b01011111000000010000000000000000 = .command (.lfoSeed 1) := by decide

/-- Run 2.7, lines 5 and 10: unassigned codes. -/
theorem test_decode_unassigned :
    decode 0x17000000 = .illegal .unassigned ∧ decode 0xFF000000 = .illegal .unassigned := by decide

/-- Run 2.7, lines 4, 6 to 9 and 33: a reserved field that is not zero. -/
theorem test_decode_reserved :
    decode 0x20000001 = .illegal .reservedField ∧ decode 0x10000001 = .illegal .reservedField ∧
      decode 0x10010000 = .illegal .reservedField ∧ decode 0x21010000 = .illegal .reservedField ∧
      decode 0x21000002 = .illegal .reservedField ∧ decode 0x00000001 = .illegal .reservedField := by decide

/-- Run 2.7, lines 2 and 11 to 13: units that do not exist. -/
theorem test_decode_badUnit :
    decode 0x20070000 = .badUnit (.oscNext 7) ∧ decode 0x40040000 = .badUnit (.envNext 4) ∧
      decode 0x50020000 = .badUnit (.lfoNext 2) ∧ decode 0x2F020000 = .badUnit (.oscRst 2) := by decide

/-- The host's table words, with a unit that exists and one that does not. -/
theorem test_decodeTableWord :
    decodeTableWord 32 0x40030000 = some (.envNext 3) ∧ decodeTableWord 32 0x20070000 = some (.oscNext 7) ∧
      decodeTableWord 32 0x17000000 = none := by decide

/-- Encoding gives the listed words back. -/
theorem test_encode :
    encode (.oscPair true) = 0x21000001 ∧ encode (.envRst 2) = 0x4F020000 ∧ encode .n2f = 0x16000000 := by decide

/-! ### One step of each command -/

/-- The state after a command (every command goes on). -/
def after (i : Instr) (s : State) : State :=
  match exec i s with
  | .next t => t
  | .fault _ => s
  | .refused _ => s

/-- The state after one step. -/
def stepped (s : State) : State :=
  match step s with
  | .next t => t
  | .fault _ => s
  | .refused _ => s

/-- Reset with a context at a rate. -/
def atRate (rate : Word) : State := { State.reset with ctxRate := rate, status := 1 }

/-- Reset with a MATH argument. -/
def withArg (arg : Word) : State := { State.reset with mathArg := arg }

/-- Reset with events to come. -/
def withEvents (evs : List HostEvent) : State := { State.reset with host := evs }

/-- `NOP` (run 2.7, line 32). -/
theorem test_nop : exec .nop (atRate 44100) = .next (atRate 44100) := by rfl

/-- Vectors 2.1: X = 1/6. -/
theorem test_sinpi : (after .sinpi (withArg 0x02AAAAAA)).mathRes = 0x00001FFF := by decide

/-- Vectors 2.1: X = −2^−28, the floor gives −1. -/
theorem test_sinpi_floor : (after .sinpi (withArg 0xFFFFFFFF)).mathRes = 0xFFFFFFFF := by decide

/-- Vectors 2.1. -/
theorem test_cospi : (after .cospi (withArg 0x05555555)).mathRes = 0x00001FFF := by decide

/-- Vectors 2.1: the argument just under 8. -/
theorem test_cospi_top : (after .cospi (withArg 0x7FFFFFFF)).mathRes = 0x00003FFF := by decide

/-- Vectors 2.1: not exactly the negative of +0x00100000. -/
theorem test_tan : (after .tan (withArg 0xFFF00000)).mathRes = 0xFFEFFFFA := by decide

/-- Vectors 2.1: saturates low. -/
theorem test_tan_saturates : (after .tan (withArg 0x80000000)).mathRes = 0x80000000 := by decide

/-- Vectors 2.1: half a table step. -/
theorem test_exp2 : (after .exp2 (withArg 0x00100000)).mathRes = 0x00040593 := by decide

/-- Vectors 2.1: the largest unsaturated result. -/
theorem test_exp2_top : (after .exp2 (withArg 0x6FFFFFFF)).mathRes = 0xFFFFFFE8 := by decide

/-- Vectors 2.1: 1/17. -/
theorem test_rcp1p : (after .rcp1p (withArg 0xFFFFFFFF)).mathRes = 0x0000F0F1 := by decide

/-- Vectors 2.1: the exponent of 1/17. -/
theorem test_rcp1p_exp : (after .rcp1p (withArg 0xFFFFFFFF)).mathExp = 0xFFFFFFFC := by decide

/-- Vectors 2.1: the mantissa at its minimum. -/
theorem test_rcp1m : (after .rcp1m (withArg 0x00000001)).mathRes = 0x00008000 := by decide

/-- Vectors 2.1: bits 31:16 ignored, the largest exponent. -/
theorem test_rcp1m_exp : (after .rcp1m (withArg 0x0001FFFF)).mathExp = 0x00000010 := by decide

/-- Vectors 2.1: note 69. -/
theorem test_n2f : (after .n2f (withArg 0x00008A00)).mathRes = 0x06E0002F := by decide

/-- Vectors 2.1: bits 31:16 ignored. -/
theorem test_n2f_upper : (after .n2f (withArg 0x0001FFFF)).mathRes = 0xCFA1B31C := by decide

/-- An oscillator before vector O-o: the shape past its ceiling, a crossing. -/
def oscO : State :=
  { atRate 44100 with
    osc0 := { OscUnit.reset with note := 0xFFFF, shape := 0xFFFF, syncIn := 0x10000, phase := 0xFF000000 } }

/-- Vector O-o: crossing, rescale ×31 and wrap in one sample. -/
theorem test_oscNext :
    (after (.oscNext 0) oscO).osc0.phase = 0xF375EA40 ∧ (after (.oscNext 0) oscO).osc0.syncOut = 0x2CC8F := by
  decide

/-- Vector O-o: the sine and the triangle. -/
theorem test_oscNext_waves :
    (after (.oscNext 0) oscO).osc0.sin = 0xFCE1 ∧ (after (.oscNext 0) oscO).osc0.tri = 0x0E00 := by decide

/-- Vector O-e for the primary, whose report is 0xFC97; the secondary, at the same note and shape 0, restarts at that
fraction of `d` = 4921292 (R148 (a)). -/
theorem test_oscPair :
    (after (.oscPair true) { atRate 48000 with
      osc0 := { OscUnit.reset with note := 0x8A00, phase := 0xFFFF0000 } }).osc1.phase =
      BitVec.ofNat 32 (0xFC97 * 4921292 / 65536) := by decide

/-- Vector O-f: without sync the primary reports nothing. -/
theorem test_oscPair_off :
    (after (.oscPair false) { atRate 48000 with
      osc0 := { OscUnit.reset with note := 0x8A00, phase := 0xFFFF0000 } }).osc0.syncOut = 0 := by decide

/-- Section 2.2, the note on `OSC.RST 1`. -/
theorem test_oscRst :
    (after (.oscRst 1) { State.reset with osc1 := { OscUnit.reset with note := 5, phase := 7, sin := 9 } }).osc1 =
      { OscUnit.reset with note := 5 } := by decide

/-- Vector F2, line 0: the results. -/
theorem test_filtNext :
    (after .filtNext { atRate 48000 with filt := { FiltUnit.reset with input := 0x1000, cutoff := 0xC800 } }).filt.high =
      0x0B9A := by decide

/-- Vector F5, line 0: saturations. -/
theorem test_filtNext_saturates :
    (after .filtNext { atRate 44100 with
      filt := { FiltUnit.reset with input := 0x8000, cutoff := 0xFE00, res := 0xFFFF, zLow := 0x80000000,
                                    zBand := 0x7FFFFFFF } }).filt.zLow = 0x7E6B6524 := by decide

/-- Section 2.3, the note on `FILT.RST`. -/
theorem test_filtRst :
    (after .filtRst { State.reset with filt := { FiltUnit.reset with input := 3, zLow := 7, high := 9 } }).filt =
      { FiltUnit.reset with input := 3 } := by decide

/-- Vector E1, line 0, on unit 3 (E16). -/
theorem test_envNext :
    (after (.envNext 3) { atRate 48000 with
      env3 := { EnvUnit.reset with gate := 0x1000, attack := 0x019A } }).env3.last = 0x0003E887 := by decide

/-- Vector E15: Release to Attack to Decay in one sample. -/
theorem test_envNext_three_states :
    (after (.envNext 0) { atRate 48000 with
      env0 := { EnvUnit.reset with gate := 0x1000, sustain := 0x8000, last := 0x1FFFE000 } }).env0.state = .decay := by
  decide

/-- Vector E16, `ENV.RST 3`. -/
theorem test_envRst :
    (after (.envRst 3) { State.reset with
      env3 := { EnvUnit.reset with attack := 0x019A, state := .attack, last := 0x001187BF, out := 0x008C } }).env3 =
      { EnvUnit.reset with attack := 0x019A } := by decide

/-- Vector L26: the saw at −`PI28`. -/
theorem test_lfoNext :
    (after (.lfoNext 0) { atRate 48000 with
      lfo0 := { LfoUnit.reset with freq := 0x0800, depth := 0xFFFF, options := 0x0303,
                                   phase := 0xCDBC0957 } }).lfo0.out = 0xF000 := by decide

/-- Vector L24: the exact wrap steps the generator. -/
theorem test_lfoNext_wraps :
    (after (.lfoNext 0) { atRate 48000 with
      lfo0 := { LfoUnit.reset with freq := 0x0800, depth := 0xFFFF, phase := 0x32436D67 } }).lfo0.prngHi =
      0xDC1B77AE := by decide

/-- Section 2.6: `LFO.SEED 1`, high word. -/
theorem test_lfoSeed :
    (after (.lfoSeed 1) { State.reset with
      lfo1 := { LfoUnit.reset with seedHi := 0x01234567, seedLo := 0x89ABCDEF } }).lfo1.prngHi = 0x9F143CDE := by
  decide

/-- Section 2.6, row 5: the seed that is replaced. -/
theorem test_lfoSeed_zero :
    (after (.lfoSeed 1) { State.reset with
      lfo1 := { LfoUnit.reset with seedHi := 0x9E3779B9, seedLo := 0x7F4A7C15 } }).lfo1.prngLo = 0x7F4A7C15 := by
  decide

/-! ### One step of the host's port -/

/-- Section 2.7, width rule: `OSC0_SYNC_IN` keeps 18 bits. -/
theorem test_write_width : (stepped (withEvents [.wr 0x13 0xFFFFFFFF])).osc0.syncIn = 0x3FFFF := by decide

/-- Run 2.7, lines 2 and 3, from reset. -/
theorem test_errors :
    (stepped (withEvents [.wr 0x03 0x20070000])).status = 0x430 ∧
      (stepped (withEvents [.wr 0x03 0x20000000])).status = 0x840 := by decide

/-- Run 2.7, line 14: a refused rate. -/
theorem test_rate : (stepped (withEvents [.wr 0x00 96000])).errInfo = 0x00017700 := by decide

/-- Run 2.7, lines 20 and 27: a read of `CMD` and an unmapped write. -/
theorem test_addr :
    (stepped (withEvents [.rd 0x03])).answers = [0] ∧ (stepped (withEvents [.rd 0x03])).errInfo = 0x00000003 ∧
      (stepped (withEvents [.wr 0xA0 5])).errInfo = 0x000001A0 := by decide

/-- A placed word is the first command after reset. -/
theorem test_withFetchWord :
    (stepped (State.reset.withFetchWord 32 0x13000000)).mathRes = 0x00040000 := by decide

/-! ### The hypotheses of the obligations can be met -/

theorem witness_DecodeFollowsTheOpcodeMap :
    opcOf 0x10000000 = 0x10 ∧ opcOf 0x20010000 = 0x20 ∧ unitNo 0x20010000 = 1 ∧ unitNo 0x20020000 = 2 ∧
      opcOf 0x21000001 = opcPair ∧ opcOf 0x17000000 ∉ assigned ∧ opcOf 0x60000000 ∉ assigned := by decide

theorem witness_DecodeAndEncodeAgree :
    (Instr.envNext 3).wellFormed = true ∧ (Instr.envNext 4).wellFormed = false ∧
      decode 0x40030000 = .command (.envNext 3) ∧ decode 0x40040000 = .badUnit (.envNext 4) := by decide

/-- Unmapped, read-only and other numbers, at the ends of the map's gaps. -/
theorem witness_addresses :
    Unmapped 0x07 ∧ Unmapped 0x0F ∧ Unmapped 0x9D ∧ Unmapped 0xFF ∧ ReadOnly 0x01 ∧ ReadOnly 0x9C ∧
      ¬Unmapped 0x00 ∧ ¬Unmapped 0x03 ∧ ¬Unmapped 0x9C ∧ ¬ReadOnly 0x03 ∧ ¬ReadOnly 0x9A :=
  ⟨by decide, by decide, by decide, by decide, by decide, by decide, by decide, by decide, by decide, by decide, by decide⟩

theorem witness_HostTransactions :
    (withEvents [.wr 0x07 5]).host = .wr 0x07 5 :: [] ∧ (withEvents [.wr 0x03 0]).host = .wr 0x03 0 :: [] ∧
      (withEvents [.wr 0x00 1]).host = .wr 0x00 1 :: [] ∧
      regAt 0x04 = some .mathArg ∧ Reg.mathArg.access = .rw ∧ regAt 0x9A = some (.lfo 1 .seedHi) ∧
      (Reg.lfo 1 .seedHi).access = .rw ∧ (withEvents [.rd 0x03]).host = .rd 0x03 :: [] ∧
      regAt 0x9C = some (.lfo 1 .prngHi) := by decide

theorem witness_WritingTheRateMakesTheContext :
    (withEvents [.wr 0x00 44100]).host = .wr 0x00 44100 :: [] ∧ (44101 : Word) ≠ 44100 ∧ (44101 : Word) ≠ 48000 := by
  decide

/-- Command words of every kind of check: none, no unit, no context, and good ones. -/
theorem witness_FirstFailingCheckIsReported :
    NoCommand 0x17000000 ∧ NoCommand 0x20000001 ∧ NoUnit 0x20020000 ∧ ¬NoCommand 0x20010000 ∧ ¬NoUnit 0x20010000 ∧
      opcOf 0x20010000 ∈ perSample ∧ State.reset.status.getLsbD 0 = false ∧ (atRate 48000).status.getLsbD 0 = true ∧
      ¬NoCommand 0x10000000 ∧ ¬NoUnit 0x10000000 ∧ opcOf 0x10000000 ∉ perSample :=
  ⟨by decide, by decide, by decide, by decide, by decide, by decide, by decide, by decide, by decide, by decide, by decide⟩

theorem witness_CommandsArePerformed :
    (withEvents [.wr 0x03 0x17000000]).host = .wr 0x03 0x17000000 :: [] ∧ decode 0x17000000 = .illegal .unassigned ∧
      decode 0x20020000 = .badUnit (.oscNext 2) ∧ decode 0x20010000 = .command (.oscNext 1) ∧
      opcOf 0x20010000 ∈ perSample ∧ (withEvents []).status.getLsbD 0 = false ∧
      decode 0x10000000 = .command .sinpi ∧ opcOf 0x10000000 ∉ perSample := by decide

theorem witness_StepRunsTheDecodedCommand :
    (withEvents [.wr 0x03 0x10000000]).host = .wr 0x03 0x10000000 :: [] ∧ decode 0x10000000 = .command .sinpi := by
  decide

theorem witness_PlacedWordRunsNext : (Instr.envNext 3).wellFormed = true := by decide

theorem witness_OnlyASecondHostIsRefused :
    (withEvents [.rd 0x01]).host.head? ≠ some .otherHost ∧ (withEvents [.otherHost]).host.head? = some .otherHost ∧
      State.reset.host = [] := by decide

theorem witness_HardwareResetResetsEveryRegister :
    (withEvents [.hwReset, .rd 0x01]).host = .hwReset :: [.rd 0x01] := by decide

theorem witness_EveryStepKeepsTheInvariants :
    Inv (withEvents [.wr 0x00 48000]) ∧
      step (withEvents [.wr 0x00 48000]) = .next (stepped (withEvents [.wr 0x00 48000])) :=
  ⟨by decide, rfl⟩

theorem witness_OnlyResetClearsStatus :
    (withEvents [.wr 0x03 1]).host.head? ≠ some .hwReset ∧
      step { withEvents [.wr 0x03 1] with status := 0x441 } =
        .next { State.reset with status := 0x621, errInfo := 1 } := ⟨by decide, rfl⟩

theorem witness_NoErrorAtTheEndMeansNoErrorEver :
    HostEvent.hwReset ∉ (withEvents [.rd 0x02]).host ∧
      Sys2Proof.core.run 1 (withEvents [.rd 0x02]) = .next { State.reset with answers := [0] } ∧
      NoError { State.reset with answers := [0] } := ⟨by decide, rfl, by decide⟩

theorem witness_CommandsNeverWriteInputs :
    exec (.oscRst 1) State.reset = .next (after (.oscRst 1) State.reset) ∧ (Reg.osc 1 .note).access = .rw ∧
      Reg.ctxRate.access = .rwChecked := ⟨rfl, rfl, rfl⟩

/-- Two states that differ in a register `ENV.NEXT 3` does not read and agree on those it reads. -/
theorem witness_ResultsDependOnlyOnTheRegistersRead :
    (Instr.envNext 3).wellFormed = true ∧ (atRate 48000).status.getLsbD 0 = true ∧
      (∀ r, Reads (.envNext 3) r → readReg r (atRate 48000) = readReg r { atRate 48000 with mathArg := 1 }) ∧
      atRate 48000 ≠ { atRate 48000 with mathArg := 1 } := by
  refine ⟨by decide, by decide, fun r hr => ?_, by decide⟩
  cases r <;> first | rfl | exact hr.elim

theorem witness_CommandsThatDoNotExecute :
    (Instr.lfoSeed 2).wellFormed = false ∧ (Instr.lfoNext 1).wellFormed = true ∧
      opcOf (encode (.lfoNext 1)) ∈ perSample ∧ State.reset.status.getLsbD 0 = false := by decide

/-- The errors of a format-N command (`ErrorsN`), at the smallest field that is not zero. -/
theorem witness_ErrorsN :
    (withEvents [.wr 0x03 0x3F000001]).host = .wr 0x03 0x3F000001 :: [] ∧ opcOf 0x3F000001 = 0x3F ∧
      immOf 0x3F000001 ≠ 0 ∧ opcOf 0x30010000 = 0x30 ∧ unitNo 0x30010000 ≠ 0 ∧ opcOf 0x00000001 = 0x00 := by decide

/-- The errors of a format-U command (`ErrorsU`), at the first unit that does not exist. -/
theorem witness_ErrorsU :
    (withEvents [.wr 0x03 0x4F040000]).host = .wr 0x03 0x4F040000 :: [] ∧ opcOf 0x4F040000 = 0x4F ∧
      immOf 0x4F040000 = 0 ∧ 4 ≤ unitNo 0x4F040000 ∧ opcOf 0x4F000001 = 0x4F ∧ immOf 0x4F000001 ≠ 0 ∧
      opcOf 0x20020000 = 0x20 ∧ opcOf 0x2F020000 = 0x2F ∧ opcOf 0x40040000 = 0x40 ∧ opcOf 0x50020000 = 0x50 ∧
      opcOf 0x5F020000 = 0x5F := by decide

/-- The errors of `OSC.PAIR` (`ErrorsP`), at the first immediate past `sync` and the first unit past 0. -/
theorem witness_ErrorsP :
    opcOf 0x21000002 = 0x21 ∧ 2 ≤ immOf 0x21000002 ∧ opcOf 0x21010000 = 0x21 ∧ unitNo 0x21010000 ≠ 0 := by decide

/-- A good word of each per-sample command meets the hypotheses of `ErrorsNoContext`. -/
theorem witness_ErrorsNoContext :
    (¬NoCommand 0x20010000 ∧ ¬NoUnit 0x20010000) ∧ (¬NoCommand 0x21000001 ∧ ¬NoUnit 0x21000001) ∧
      (¬NoCommand 0x30000000 ∧ ¬NoUnit 0x30000000) ∧ (¬NoCommand 0x40030000 ∧ ¬NoUnit 0x40030000) ∧
      (¬NoCommand 0x50010000 ∧ ¬NoUnit 0x50010000) :=
  ⟨⟨by decide, by decide⟩, ⟨by decide, by decide⟩, ⟨by decide, by decide⟩, ⟨by decide, by decide⟩,
    ⟨by decide, by decide⟩⟩

theorem witness_MathCommandsUseOnlyTheMathRegisters :
    Instr.filtRst ∉ [Instr.sinpi, .cospi, .tan, .exp2, .n2f, .rcp1p, .rcp1m] ∧
      exec .filtRst State.reset = .next (after .filtRst State.reset) := ⟨by decide, rfl⟩

theorem witness_SinpiInterpolatesTheTable : sineArg (withArg 0x00200000).mathArg.toInt % 2 ^ 21 = 0 := by decide

theorem witness_TanIsIncreasingAndNearlyOdd :
    (0 : Int) < 1 ∧ -2 ^ 31 < tanR 0 ∧ tanR 1 < 2 ^ 31 - 1 ∧ (-2 ^ 31 : Int) ≤ -2 ^ 31 := by decide

theorem witness_Exp2IsIncreasingAndSaturatesFrom14 :
    (-2 ^ 31 : Int) ≤ 14 * 2 ^ 27 ∧ (14 * 2 ^ 27 : Int) ≤ 14 * 2 ^ 27 + 1 ∧ (14 * 2 ^ 27 + 1 : Int) < 2 ^ 31 := by decide

theorem witness_ReciprocalCoreRange : (0 : Int) ≤ 65533 ∧ (65533 : Int) ≤ 65535 := by decide

/-- A context at each supported rate; for `OscNextTakesOneSample`, `OscPairTakesOneSampleOfBoth`,
`SyncLeavesThePrimaryAlone`, `FiltNextTakesOneSample`, `EnvNextTakesOneSample` and `LfoNextTakesOneSample`. -/
theorem witness_Context : Context (atRate 44100) ∧ Context (atRate 48000) := ⟨⟨rfl, .inl rfl⟩, ⟨rfl, .inr rfl⟩⟩

theorem witness_ShapeZeroAdvancesByTheIncrement :
    Context (atRate 48000) ∧ OscLegal (getOsc 1 (atRate 48000)) ∧ (getOsc 1 (atRate 48000)).shape = 0 ∧
      (getOsc 1 (atRate 48000)).syncIn.toNat / 2 ^ 16 ≠ 2 := ⟨witness_Context.2, by decide⟩

theorem witness_FilterHighNeedsNoSaturation : (-2 ^ 31 : Int) ≤ -2 ^ 31 ∧ (-2 ^ 31 : Int) < 2 ^ 31 := by decide

/-- An envelope in its second sample of Attack, and one in its second sample of Release. -/
theorem witness_EnvelopeIsMonotoneWithinAState :
    let a : State := { atRate 48000 with env0 := { EnvUnit.reset with gate := 0x1000, spPrev := 0x1FFFE000 } }
    let r := atRate 48000
    EnvLegal (getEnv 0 a) ∧ (getEnv 0 (after (.envNext 0) a)).state = .attack ∧ (getEnv 0 a).spPrev = 0x1FFFE000 ∧
      EnvLegal (getEnv 0 r) ∧ (getEnv 0 (after (.envNext 0) r)).state = .release ∧ (getEnv 0 r).spPrev = 0x00008000 := by
  decide

theorem witness_GeneratorStepIsInvertible : prngStep 1 = prngStep 1 ∧ (1 : Prng) ≠ 0 := by decide

theorem witness_FirstSampleIgnoresLowSeedBits :
    (0 : Prng) ≠ 0x9E3779B97F4A7C15 ∧ (0x3FFFF : Prng) ≠ 0x9E3779B97F4A7C15 ∧ (0 : Prng) >>> 18 = 0x3FFFF >>> 18 := by
  decide

/-- Vector L21: the gate just above the threshold, the phase away from 0. -/
theorem witness_RetriggerRestartsThePhase :
    let s : State := { atRate 48000 with
      lfo0 := { LfoUnit.reset with freq := 0x0800, gate := 0x0801, phase := 0x1921FB54 } }
    Context s ∧ (getLfo 0 s).options.getLsbD 9 = true ∧ 2048 < (getLfo 0 s).gate.toInt ∧
      (getLfo 0 s).prevGate = false := ⟨⟨rfl, .inr rfl⟩, rfl, by decide, rfl⟩

/-- The two ends of the range of arguments. -/
theorem witness_Exp2IsAccurate :
    0 ≤ (withArg 0).mathArg.toInt ∧ (withArg 0x6FFFFFFF).mathArg.toInt < 14 * 2 ^ 27 := by decide

theorem witness_ReciprocalsAreAccurate : (0 : Int) ≤ 65535 ∧ (65535 : Int) ≤ 65535 := by decide

/-- Note 69. -/
theorem witness_N2fIsAccurate : (withArg 0x00008A00).mathArg.toNat % 2 ^ 16 % 512 = 0 := by decide

/-- `OSC.NEXT 2` reports an error in every state, `OSC.NEXT 1` without a context and not in one. -/
theorem witness_CommandsChangeOnlyTheirRegisters :
    ExecReports (.oscNext 2) (atRate 48000) ∧ ExecReports (.oscNext 1) State.reset ∧
      ¬ExecReports (.oscNext 1) (atRate 48000) ∧ ¬ExecReports .sinpi State.reset := by decide

end Sys2Proof.Tests
end

section
/-! SUPPORT. Command words and the step that performs one: O11, O12 (`10_state.md` R22, `30_encoding.md` R96). -/

namespace Sys2Proof.Proofs

open Sys2Proof.Machine Sys2Proof.Claims

/-! ### A command's own word -/

theorem decode_commandWord_rowN (opc : BitVec 8) (i : Instr) (h : opRow opc = some (.n i)) :
    decode (commandWord opc 0 0) = checkUnit i := by
  rw [decode_of_rowN _ i (by rw [opcField_commandWord, h])]
  simp

theorem decode_commandWord_rowU (opc : BitVec 8) (u : UnitIndex) (make : UnitIndex → Instr)
    (h : opRow opc = some (.u make)) : decode (commandWord opc u 0) = checkUnit (make u) := by
  rw [decode_of_rowU _ make (by rw [opcField_commandWord, h])]
  simp

/-- A command's word passes the code and the reserved fields; what is left is the unit check. -/
theorem decode_encode (i : Instr) : decode (encode i) = checkUnit i := by
  cases i with
  | nop => exact decode_commandWord_rowN _ _ rfl
  | sinpi => exact decode_commandWord_rowN _ _ rfl
  | cospi => exact decode_commandWord_rowN _ _ rfl
  | tan => exact decode_commandWord_rowN _ _ rfl
  | exp2 => exact decode_commandWord_rowN _ _ rfl
  | rcp1p => exact decode_commandWord_rowN _ _ rfl
  | rcp1m => exact decode_commandWord_rowN _ _ rfl
  | n2f => exact decode_commandWord_rowN _ _ rfl
  | oscNext u => exact decode_commandWord_rowU _ u _ rfl
  | oscPair sync => cases sync <;> decide
  | oscRst u => exact decode_commandWord_rowU _ u _ rfl
  | filtNext => exact decode_commandWord_rowN _ _ rfl
  | filtRst => exact decode_commandWord_rowN _ _ rfl
  | envNext u => exact decode_commandWord_rowU _ u _ rfl
  | envRst u => exact decode_commandWord_rowU _ u _ rfl
  | lfoNext u => exact decode_commandWord_rowU _ u _ rfl
  | lfoSeed u => exact decode_commandWord_rowU _ u _ rfl

theorem decode_encode_of_wellFormed (i : Instr) (h : i.wellFormed = true) : decode (encode i) = .command i := by
  rw [decode_encode, checkUnit, if_pos h]

/-- A 32-bit word survives the table's numbering of words. -/
@[simp] theorem tableWord_toNat (c : Word) : tableWord 32 c.toNat = c := by
  rw [tableWord, Nat.mod_eq_of_lt c.isLt, BitVec.ofNat_toNat, BitVec.setWidth_eq]

/-! ### The write of a command word -/

/-- A write to `CMD` performs the word written (`20_memory.md` R61). -/
theorem hostWrite_cmd (c : Word) (s : State) : hostWrite cmdNum c s = perform c s := rfl

theorem perform_of_command (c : Word) (i : Instr) (s : State) (h : decode c = .command i) :
    perform c s = exec i s := by
  rw [perform, h]

theorem step_of_command (s : State) (c : Word) (i : Instr) (rest : List HostEvent)
    (hs : s.host = .wr cmdNum c :: rest) (hc : decode c = .command i) :
    step s = exec i { s with host := rest } := by
  rw [step_of_cons s _ rest hs, deliver, hostWrite_cmd, perform_of_command c i _ hc]

/-- Settles O11. -/
theorem stepRunsTheDecodedCommand : Obligations.StepRunsTheDecodedCommand :=
  fun s c i rest hs hc => step_of_command s c i rest hs hc

/-- Settles O12: the placed word is the head of the list, decodes to its command, and taking it gives the state back. -/
theorem placedWordRunsNext : Obligations.PlacedWordRunsNext := by
  intro s i hi
  have hhost : (s.withFetchWord 32 (encode i).toNat).host = .wr cmdNum (encode i) :: s.host := by
    simp [State.withFetchWord, placeCommand]
  exact step_of_command _ _ i s.host hhost (decode_encode_of_wellFormed i hi)

end Sys2Proof.Proofs
end

section
/-! SUPPORT. The register map: O4, O5, O6 (`10_state.md` R27, R28, R40). -/

namespace Sys2Proof.Proofs

open Sys2Proof.Machine Sys2Proof.Claims

/-! ### Mapped and unmapped numbers -/

/-- A function of an offset that answers exactly below `n`. -/
theorem eq_none_iff_of_below {R : Type} (f : Nat → Option R) (n : Nat) (hlow : ∀ k < n, f k ≠ none)
    (hhigh : ∀ j, f (j + n) = none) (k : Nat) : f k = none ↔ n ≤ k := by
  constructor
  · exact fun hk => Nat.le_of_not_lt fun hlt => hlow k hlt hk
  · intro hk
    rw [← Nat.sub_add_cancel hk]
    exact hhigh _

theorem sysRegAt_eq_none_iff (k : Nat) : sysRegAt k = none ↔ 7 ≤ k :=
  eq_none_iff_of_below sysRegAt 7 (by decide) (fun _ => rfl) k

theorem oscRegAt_eq_none_iff (k : Nat) : oscRegAt k = none ↔ 10 ≤ k :=
  eq_none_iff_of_below oscRegAt 10 (by decide) (fun _ => rfl) k

theorem filtRegAt_eq_none_iff (k : Nat) : filtRegAt k = none ↔ 8 ≤ k :=
  eq_none_iff_of_below filtRegAt 8 (by decide) (fun _ => rfl) k

theorem envRegAt_eq_none_iff (k : Nat) : envRegAt k = none ↔ 9 ≤ k :=
  eq_none_iff_of_below envRegAt 9 (by decide) (fun _ => rfl) k

theorem lfoRegAt_eq_none_iff (k : Nat) : lfoRegAt k = none ↔ 13 ≤ k :=
  eq_none_iff_of_below lfoRegAt 13 (by decide) (fun _ => rfl) k

/-- Page by page, the offsets past a unit's last register are the unmapped numbers. -/
theorem regAt_eq_none_iff (a : RegNum) : regAt a = none ↔ Unmapped a := by
  have ha : a.toNat < 256 := a.isLt
  simp only [regAt]
  split <;>
    simp only [Option.map_eq_none_iff, sysRegAt_eq_none_iff, oscRegAt_eq_none_iff, filtRegAt_eq_none_iff,
      envRegAt_eq_none_iff, lfoRegAt_eq_none_iff, true_iff, imp_false] at * <;>
    omega

/-- Every number outside the unmapped ranges is in the number column of the table. -/
theorem mem_registerMap_of_mapped (a : RegNum) (h : regAt a ≠ none) : a.toNat ∈ registerMap.map (·.1) := by
  have listed : ∀ p k : Fin 16, ¬Unmapped (BitVec.ofNat 8 (16 * p + k)) →
      16 * p.val + k.val ∈ registerMap.map (·.1) := by decide
  have hsplit : 16 * (a.toNat / 16) + a.toNat % 16 = a.toNat := Nat.div_add_mod _ _
  have hmem := listed ⟨a.toNat / 16, by have := a.isLt; omega⟩ ⟨a.toNat % 16, by omega⟩
  simp only [hsplit, BitVec.ofNat_toNat, BitVec.setWidth_eq] at hmem
  exact hmem fun hu => h ((regAt_eq_none_iff a).2 hu)

/-- Settles O4: the 97 rows are compared one by one, the unmapped numbers page by page. -/
theorem registerMapIsTheTable : Obligations.RegisterMapIsTheTable :=
  ⟨by decide, regAt_eq_none_iff, mem_registerMap_of_mapped, by decide⟩

/-! ### The reset column -/

theorem readsAsReset_append {s : State} {rows rows' : List (Nat × Reg × Access × Nat × Option Nat)}
    (h : ReadsAsReset s rows) (h' : ReadsAsReset s rows') : ReadsAsReset s (rows ++ rows') := fun row hrow =>
  (List.mem_append.1 hrow).elim (h row) (h' row)

/-- A page reads as its reset column when the unit's own rows do. -/
theorem readsAsReset_page {R : Type} {s : State} {base : Nat} {name : R → Reg}
    {rows : List (Nat × R × Access × Nat × Nat)}
    (h : ∀ row ∈ rows, readReg (name row.2.1) s = BitVec.ofNat 32 row.2.2.2.2) :
    ReadsAsReset s (page base name rows) := by
  intro row hrow v hv
  obtain ⟨unitRow, hmem, rfl⟩ := List.mem_map.1 hrow
  cases hv
  exact h unitRow hmem

/-- The global rows, whose `CMD` has no reset value, then the nine pages. -/
theorem readsAsReset_reset : ReadsAsReset State.reset registerMap := by
  refine readsAsReset_append (readsAsReset_append (readsAsReset_append (readsAsReset_append (readsAsReset_append
    (readsAsReset_append (readsAsReset_append (readsAsReset_append (readsAsReset_append ?globals
      (readsAsReset_page ?_)) (readsAsReset_page ?_)) (readsAsReset_page ?_)) (readsAsReset_page ?_))
      (readsAsReset_page ?_)) (readsAsReset_page ?_)) (readsAsReset_page ?_)) (readsAsReset_page ?_))
      (readsAsReset_page ?_)
  case globals => simp [ReadsAsReset, readReg, State.reset]
  all_goals decide

theorem exists_oscRow (r : OscReg) : ∃ row ∈ oscRows, row.2.1 = r := by cases r <;> decide

theorem exists_filtRow (r : FiltReg) : ∃ row ∈ filtRows, row.2.1 = r := by cases r <;> decide

theorem exists_envRow (r : EnvReg) : ∃ row ∈ envRows, row.2.1 = r := by cases r <;> decide

theorem exists_lfoRow (r : LfoReg) : ∃ row ∈ lfoRows, row.2.1 = r := by cases r <;> decide

/-- A register of a page of the map has a row there, with a reset value. -/
theorem exists_row_of_page {R : Type} {base : Nat} {name : R → Reg} {rows : List (Nat × R × Access × Nat × Nat)}
    (hpage : page base name rows ⊆ registerMap) {r : R} (hrow : ∃ row ∈ rows, row.2.1 = r) (hcmd : name r ≠ .cmd) :
    ∃ row ∈ registerMap, row.2.1 = name r ∧ (row.2.2.2.2 = none ↔ name r = .cmd) := by
  obtain ⟨row, hmem, rfl⟩ := hrow
  exact ⟨_, hpage (List.mem_map.2 ⟨row, hmem, rfl⟩), rfl, by simp [hcmd]⟩

theorem exists_row (r : Reg) : ∃ row ∈ registerMap, row.2.1 = r ∧ (row.2.2.2.2 = none ↔ r = .cmd) := by
  cases r with
  | osc u r =>
    have hrow := exists_oscRow r
    match u with
    | 0 => exact exists_row_of_page (base := 0x10) (fun _ h => by simp [registerMap, h]) hrow (by simp)
    | 1 => exact exists_row_of_page (base := 0x20) (fun _ h => by simp [registerMap, h]) hrow (by simp)
  | filt r => exact exists_row_of_page (base := 0x30) (fun _ h => by simp [registerMap, h]) (exists_filtRow r) (by simp)
  | env e r =>
    have hrow := exists_envRow r
    match e with
    | 0 => exact exists_row_of_page (base := 0x40) (fun _ h => by simp [registerMap, h]) hrow (by simp)
    | 1 => exact exists_row_of_page (base := 0x50) (fun _ h => by simp [registerMap, h]) hrow (by simp)
    | 2 => exact exists_row_of_page (base := 0x60) (fun _ h => by simp [registerMap, h]) hrow (by simp)
    | 3 => exact exists_row_of_page (base := 0x70) (fun _ h => by simp [registerMap, h]) hrow (by simp)
  | lfo l r =>
    have hrow := exists_lfoRow r
    match l with
    | 0 => exact exists_row_of_page (base := 0x80) (fun _ h => by simp [registerMap, h]) hrow (by simp)
    | 1 => exact exists_row_of_page (base := 0x90) (fun _ h => by simp [registerMap, h]) hrow (by simp)
  | _ => simp [registerMap]

/-- Settles O5. -/
theorem resetGivesTheResetColumn : Obligations.ResetGivesTheResetColumn := ⟨readsAsReset_reset, exists_row⟩

/-! ### The width rule -/

theorem setWidth_toNat_lt {w : Nat} (v : BitVec w) (h : w ≤ 32) : (v.setWidth 32).toNat < 2 ^ w := by
  rw [BitVec.toNat_setWidth_of_le h]
  exact v.isLt

theorem zext16_toNat_lt (v : BitVec 16) : (zext16 v).toNat < 2 ^ 16 := setWidth_toNat_lt v (by decide)

theorem readOscReg_lt (o : OscUnit) (u : Fin 2) (r : OscReg) : (readOscReg o r).toNat < 2 ^ (Reg.osc u r).width := by
  cases r with
  | syncIn => exact setWidth_toNat_lt o.syncIn (by decide)
  | syncOut => exact setWidth_toNat_lt o.syncOut (by decide)
  | phase => exact o.phase.isLt
  | _ => exact zext16_toNat_lt _

theorem readFiltReg_lt (f : FiltUnit) (r : FiltReg) : (readFiltReg f r).toNat < 2 ^ (Reg.filt r).width := by
  cases r with
  | zLow => exact f.zLow.isLt
  | zBand => exact f.zBand.isLt
  | _ => exact zext16_toNat_lt _

theorem readEnvReg_lt (x : EnvUnit) (e : Fin 4) (r : EnvReg) : (readEnvReg x r).toNat < 2 ^ (Reg.env e r).width := by
  cases r with
  | state => exact setWidth_toNat_lt (envStateCode x.state) (by decide)
  | last => exact x.last.isLt
  | spPrev => exact x.spPrev.isLt
  | _ => exact zext16_toNat_lt _

theorem readLfoReg_lt (x : LfoUnit) (l : Fin 2) (r : LfoReg) : (readLfoReg x r).toNat < 2 ^ (Reg.lfo l r).width := by
  cases r with
  | prevGate => exact setWidth_toNat_lt (BitVec.ofBool x.prevGate) (by decide)
  | phase => exact x.phase.isLt
  | seedLo => exact x.seedLo.isLt
  | seedHi => exact x.seedHi.isLt
  | prngLo => exact x.prngLo.isLt
  | prngHi => exact x.prngHi.isLt
  | _ => exact zext16_toNat_lt _

/-- Settles O6: a 32-bit register is below its width by its type, a narrower one is read with zeros above. -/
theorem bitsAboveTheWidthReadZero : Obligations.BitsAboveTheWidthReadZero := by
  intro r s
  cases r with
  | osc u r => exact readOscReg_lt _ u r
  | filt r => exact readFiltReg_lt _ r
  | env e r => exact readEnvReg_lt _ e r
  | lfo l r => exact readLfoReg_lt _ l r
  | status => exact setWidth_toNat_lt s.status (by decide)
  | _ => exact (readReg _ s).isLt

end Sys2Proof.Proofs
end

section
/-! SUPPORT. What a command can do, said once: it reports its error, or it acts by one of the functions of `Acts`. The
frame of every command (O19, O20) is read off these. -/

namespace Sys2Proof.Proofs

open Sys2Proof.Machine Sys2Proof.Claims

/-! ### When a command reports an error -/

/-- Bits 31:24 of a word as a number. -/
theorem opcOf_eq_opcField (c : Word) : opcOf c = (opcField c).toNat := by
  have hc : c.toNat < 2 ^ 32 := c.isLt
  rw [opcOf, opcField, BitVec.extractLsb'_toNat, Nat.shiftRight_eq_div_pow]
  omega

theorem opcOf_commandWord (opc : BitVec 8) (unit : UnitIndex) (imm : BitVec 16) :
    opcOf (commandWord opc unit imm) = opc.toNat := by
  rw [opcOf_eq_opcField, opcField_commandWord]

/-- The per-sample codes are those of the commands that need a context (`45_system.md` R220). -/
theorem opcOf_encode_mem_perSample (i : Instr) : opcOf (encode i) ∈ perSample ↔ i.needsContext = true := by
  cases i <;> simp [encode, opcOf_commandWord, Instr.needsContext, perSample]

theorem execReports_iff (i : Instr) (s : State) :
    ExecReports i s ↔ i.wellFormed = false ∨ (i.needsContext = true ∧ ctxValid s.status = false) := by
  simp only [ExecReports, opcOf_encode_mem_perSample, ctxValid]

theorem not_execReports {i : Instr} {s : State} (hw : i.wellFormed = true)
    (hc : i.needsContext = true → ctxValid s.status = true) : ¬ExecReports i s := by
  rw [execReports_iff]
  rintro (h | ⟨hn, h⟩)
  · simp [hw] at h
  · simp [hc hn] at h

/-! ### The filter as a unit -/

/-- The state with the filter's registers replaced, as `setOsc`, `setEnv` and `setLfo` replace the other units'. -/
def setFilt (x : FiltUnit) (s : State) : State := { s with filt := x }

theorem setFilt_system (x : FiltUnit) (s : State) :
    (setFilt x s).ctxRate = s.ctxRate ∧ (setFilt x s).status = s.status ∧ (setFilt x s).errInfo = s.errInfo ∧
      (setFilt x s).host = s.host ∧ (setFilt x s).answers = s.answers := ⟨rfl, rfl, rfl, rfl, rfl⟩

theorem filtNextOn_eq (s : State) :
    filtNextOn s = setFilt (filtStep (filtCoeffs s.ctxRate (u16 s.filt.cutoff) (u16 s.filt.res)) s.filt) s := rfl

/-! ### The commands as functions of the state -/

/-- The MATH commands (`40_math.md` R120). -/
def mathCommands : List Instr := [.sinpi, .cospi, .tan, .exp2, .rcp1p, .rcp1m, .n2f]

/-- What a command does to the state when it executes: the unit it replaces, and by what. -/
inductive Acts : Instr → (State → State) → Prop
  | nop : Acts .nop id
  | math {i} (hi : i ∈ mathCommands) (res exp : Word → Int) :
      Acts i fun s => mathResult (res s.mathArg) (exp s.mathArg) s
  | oscNext {u : UnitIndex} (h : u.toNat < 2) : Acts (.oscNext u) (oscNextOn ⟨u.toNat, h⟩)
  | oscPair (sync) : Acts (.oscPair sync) (oscPairOn sync)
  | oscRst {u : UnitIndex} (h : u.toNat < 2) :
      Acts (.oscRst u) fun s => setOsc ⟨u.toNat, h⟩ (oscDefault (getOsc ⟨u.toNat, h⟩ s)) s
  | filtNext : Acts .filtNext filtNextOn
  | filtRst : Acts .filtRst fun s => setFilt (filtDefault s.filt) s
  | envNext {u : UnitIndex} (h : u.toNat < 4) : Acts (.envNext u) (envNextOn ⟨u.toNat, h⟩)
  | envRst {u : UnitIndex} (h : u.toNat < 4) :
      Acts (.envRst u) fun s => setEnv ⟨u.toNat, h⟩ (envDefault (getEnv ⟨u.toNat, h⟩ s)) s
  | lfoNext {u : UnitIndex} (h : u.toNat < 2) : Acts (.lfoNext u) (lfoNextOn ⟨u.toNat, h⟩)
  | lfoSeed {u : UnitIndex} (h : u.toNat < 2) :
      Acts (.lfoSeed u) fun s => setLfo ⟨u.toNat, h⟩ (lfoConstruct (getLfo ⟨u.toNat, h⟩ s)) s

/-- In state `s` the command reports its error with its own word. -/
def Reports (i : Instr) (s : State) : Prop := ExecReports i s ∧ ∃ e, exec i s = .next (report e (encode i) s)

/-- In every state the command reports its error, or it executes and acts by `f`. -/
def Performs (i : Instr) (f : State → State) : Prop :=
  ∀ s, Reports i s ∨ (¬ExecReports i s ∧ exec i s = .next (f s))

theorem Performs.exec_eq {i : Instr} {f : State → State} (h : Performs i f) {s : State} (hno : ¬ExecReports i s) :
    exec i s = .next (f s) :=
  (h s).elim (fun ⟨hrep, _⟩ => absurd hrep hno) And.right

/-- A command that names no unit and needs no context always executes. -/
theorem performs_unchecked {i : Instr} {f : State → State} (hw : i.wellFormed = true) (hn : i.needsContext = false)
    (hx : ∀ s, exec i s = .next (f s)) : Performs i f := fun s =>
  .inr ⟨not_execReports hw (by simp [hn]), hx s⟩

/-- A command whose unit, if any, exists and that makes the context check. -/
theorem performs_inContext {i : Instr} {f : State → State} (hw : i.wellFormed = true) (hn : i.needsContext = true)
    (hx : ∀ s, exec i s = .next (inContext i f s)) : Performs i f := by
  intro s
  obtain ⟨hc, hbody⟩ | ⟨hc, herr⟩ := inContext_cases i f s
  · exact .inr ⟨not_execReports hw fun _ => hc, by rw [hx, hbody]⟩
  · exact .inl ⟨(execReports_iff i s).2 (.inr ⟨hn, hc⟩), .noCtx, by rw [hx, herr]⟩

/-- A command that makes the unit check first: its unit does not exist, or the rest of it runs on the unit. -/
theorem reports_or_onUnit {i : Instr} {count : Nat} {u : UnitIndex} {body : Fin count → State → State}
    (hu : i.unitOf = some (u, count)) (hx : ∀ s, exec i s = .next (onUnit count i u body s)) :
    (∀ s, Reports i s) ∨ ∃ h : u.toNat < count, i.wellFormed = true ∧ ∀ s, exec i s = .next (body ⟨u.toNat, h⟩ s) := by
  by_cases h : u.toNat < count
  · exact .inr ⟨h, by simp [Instr.wellFormed, hu, h], fun s => by rw [hx, onUnit_of_lt i u body s h]⟩
  · have hw : i.wellFormed = false := by simp [Instr.wellFormed, hu, Nat.not_lt.1 h]
    exact .inl fun s => ⟨.inl hw, .unit, by rw [hx, onUnit_of_ge i u body s (Nat.not_lt.1 h)]⟩

/-- All that a command can do. -/
def ReportsOrActs (i : Instr) : Prop := (∀ s, Reports i s) ∨ ∃ f, Acts i f ∧ Performs i f

theorem reportsOrActs_onUnit {i : Instr} {count : Nat} {u : UnitIndex} {body : Fin count → State → State}
    (hu : i.unitOf = some (u, count)) (hn : i.needsContext = false)
    (hx : ∀ s, exec i s = .next (onUnit count i u body s)) (ha : ∀ h : u.toNat < count, Acts i (body ⟨u.toNat, h⟩)) :
    ReportsOrActs i :=
  (reports_or_onUnit hu hx).imp_right fun ⟨h, hw, hbody⟩ => ⟨_, ha h, performs_unchecked hw hn hbody⟩

theorem reportsOrActs_onUnit_inContext {i : Instr} {count : Nat} {u : UnitIndex} {body : Fin count → State → State}
    (hu : i.unitOf = some (u, count)) (hn : i.needsContext = true)
    (hx : ∀ s, exec i s = .next (onUnit count i u (fun v => inContext i (body v)) s))
    (ha : ∀ h : u.toNat < count, Acts i (body ⟨u.toNat, h⟩)) : ReportsOrActs i :=
  (reports_or_onUnit hu hx).imp_right fun ⟨h, hw, hbody⟩ => ⟨_, ha h, performs_inContext hw hn hbody⟩

theorem reportsOrActs_math {i : Instr} (hi : i ∈ mathCommands) (res exp : Word → Int)
    (hx : ∀ s, exec i s = .next (mathResult (res s.mathArg) (exp s.mathArg) s)) : ReportsOrActs i := by
  have hchecks : ∀ i ∈ mathCommands, i.wellFormed = true ∧ i.needsContext = false := by decide
  obtain ⟨hw, hn⟩ := hchecks i hi
  exact .inr ⟨_, .math hi res exp, performs_unchecked hw hn hx⟩

/-- Every command, by its row: the checks it makes and how it acts (`45_system.md` R220). -/
theorem reportsOrActs (i : Instr) : ReportsOrActs i := by
  cases i with
  | nop => exact .inr ⟨_, .nop, performs_unchecked rfl rfl fun _ => rfl⟩
  | sinpi => exact reportsOrActs_math (by decide) (fun a => sinpi (s32 a)) (fun _ => 0) fun _ => rfl
  | cospi => exact reportsOrActs_math (by decide) (fun a => cospi (s32 a)) (fun _ => 0) fun _ => rfl
  | tan => exact reportsOrActs_math (by decide) (fun a => tanR (s32 a)) (fun _ => 0) fun _ => rfl
  | exp2 => exact reportsOrActs_math (by decide) (fun a => exp2 (s32 a)) (fun _ => 0) fun _ => rfl
  | rcp1p =>
    exact reportsOrActs_math (by decide) (fun a => (rcp1p (u32 a)).1) (fun a => -((rcp1p (u32 a)).2 : Int)) fun _ => rfl
  | rcp1m =>
    exact reportsOrActs_math (by decide) (fun a => (rcp1m (u16 (a.extractLsb' 0 16))).1)
      (fun a => ((rcp1m (u16 (a.extractLsb' 0 16))).2 : Int)) fun _ => rfl
  | n2f => exact reportsOrActs_math (by decide) (fun a => n2f (u16 (a.extractLsb' 0 16))) (fun _ => 0) fun _ => rfl
  | oscNext u => exact reportsOrActs_onUnit_inContext rfl rfl (fun _ => rfl) .oscNext
  | oscPair sync => exact .inr ⟨_, .oscPair sync, performs_inContext rfl rfl fun _ => rfl⟩
  | oscRst u => exact reportsOrActs_onUnit rfl rfl (fun _ => rfl) .oscRst
  | filtNext => exact .inr ⟨_, .filtNext, performs_inContext rfl rfl fun _ => rfl⟩
  | filtRst => exact .inr ⟨_, .filtRst, performs_unchecked rfl rfl fun _ => rfl⟩
  | envNext u => exact reportsOrActs_onUnit_inContext rfl rfl (fun _ => rfl) .envNext
  | envRst u => exact reportsOrActs_onUnit rfl rfl (fun _ => rfl) .envRst
  | lfoNext u => exact reportsOrActs_onUnit_inContext rfl rfl (fun _ => rfl) .lfoNext
  | lfoSeed u => exact reportsOrActs_onUnit rfl rfl (fun _ => rfl) .lfoSeed

/-- One state at a time: the command reports, or it executes. -/
theorem exec_cases (i : Instr) (s : State) :
    Reports i s ∨ (¬ExecReports i s ∧ ∃ f, Acts i f ∧ exec i s = .next (f s)) := by
  obtain hreports | ⟨f, hf, hperforms⟩ := reportsOrActs i
  · exact .inl (hreports s)
  · exact (hperforms s).imp_right fun ⟨hno, hx⟩ => ⟨hno, f, hf, hx⟩

/-- The same from the answer. -/
theorem exec_next_cases {i : Instr} {s t : State} (h : exec i s = .next t) :
    (∃ e, t = report e (encode i) s) ∨ ∃ f, Acts i f ∧ t = f s := by
  obtain ⟨-, e, hx⟩ | ⟨-, f, hf, hx⟩ := exec_cases i s
  · exact .inl ⟨e, by simpa using h.symm.trans hx⟩
  · exact .inr ⟨f, hf, by simpa using h.symm.trans hx⟩

/-! ### Reading a register past a write to a unit -/

theorem readReg_report {r : Reg} (hs : r ≠ .status) (he : r ≠ .errInfo) (e : ErrCause) (info : Word) (s : State) :
    readReg r (report e info s) = readReg r s := by
  cases r with
  | status => exact absurd rfl hs
  | errInfo => exact absurd rfl he
  | _ => simp [readReg]

theorem readReg_mathResult {r : Reg} (hr : r ≠ .mathRes) (he : r ≠ .mathExp) (res exp : Int) (s : State) :
    readReg r (mathResult res exp s) = readReg r s := by
  cases r with
  | mathRes => exact absurd rfl hr
  | mathExp => exact absurd rfl he
  | _ => simp [readReg]

/-- Replacing an oscillator keeps a register that is not the oscillator's or that the new one reads the same. -/
theorem readReg_setOsc {r : Reg} {v : Fin 2} {x : OscUnit} {s : State}
    (h : ∀ r', r = .osc v r' → readOscReg x r' = readOscReg (getOsc v s) r') :
    readReg r (setOsc v x s) = readReg r s := by
  cases r with
  | osc w r' =>
    obtain rfl | hne := eq_or_ne w v
    · simpa [readReg] using h r' rfl
    · simp [readReg, getOsc_setOsc_other w v hne]
  | _ => simp [readReg]

/-- Replacing the filter keeps a register that is not the filter's or that the new one reads the same. -/
theorem readReg_setFilt {r : Reg} {x : FiltUnit} {s : State}
    (h : ∀ r', r = .filt r' → readFiltReg x r' = readFiltReg s.filt r') :
    readReg r (setFilt x s) = readReg r s := by
  cases r with
  | filt r' => exact h r' rfl
  | _ => rfl

/-- Replacing an envelope keeps a register that is not the envelope's or that the new one reads the same. -/
theorem readReg_setEnv {r : Reg} {v : Fin 4} {x : EnvUnit} {s : State}
    (h : ∀ r', r = .env v r' → readEnvReg x r' = readEnvReg (getEnv v s) r') :
    readReg r (setEnv v x s) = readReg r s := by
  cases r with
  | env w r' =>
    obtain rfl | hne := eq_or_ne w v
    · simpa [readReg] using h r' rfl
    · simp [readReg, getEnv_setEnv_other w v hne]
  | _ => simp [readReg]

/-- Replacing an LFO keeps a register that is not the LFO's or that the new one reads the same. -/
theorem readReg_setLfo {r : Reg} {v : Fin 2} {x : LfoUnit} {s : State}
    (h : ∀ r', r = .lfo v r' → readLfoReg x r' = readLfoReg (getLfo v s) r') :
    readReg r (setLfo v x s) = readReg r s := by
  cases r with
  | lfo w r' =>
    obtain rfl | hne := eq_or_ne w v
    · simpa [readReg] using h r' rfl
    · simp [readReg, getLfo_setLfo_other w v hne]
  | _ => simp [readReg]

/-! ### What each unit's sample and reset keep -/

theorem readOscReg_oscStep {r : OscReg} (hr : r ∉ oscWritten) (rate : Word) (note : Note) (sync : OscSync)
    (o : OscUnit) : readOscReg (oscStep rate note sync o) r = readOscReg o r := by
  cases r with
  | note | tune | shape | syncIn => rfl
  | _ => exact absurd (by decide) hr

theorem readOscReg_oscDefault {r : OscReg} (hr : r ∉ oscWritten) (o : OscUnit) :
    readOscReg (oscDefault o) r = readOscReg o r := by
  cases r with
  | note | tune | shape | syncIn => rfl
  | _ => exact absurd (by decide) hr

theorem readFiltReg_filtStep {r : FiltReg} (hr : r ∉ filtWritten) (c : FiltCoeffs) (f : FiltUnit) :
    readFiltReg (filtStep c f) r = readFiltReg f r := by
  cases r with
  | input | cutoff | res => rfl
  | _ => exact absurd (by decide) hr

theorem readFiltReg_filtDefault {r : FiltReg} (hr : r ∉ filtWritten) (f : FiltUnit) :
    readFiltReg (filtDefault f) r = readFiltReg f r := by
  cases r with
  | input | cutoff | res => rfl
  | _ => exact absurd (by decide) hr

theorem readEnvReg_envStep {r : EnvReg} (hr : r ∉ envWritten) (rate : Word) (e : EnvUnit) :
    readEnvReg (envStep rate e) r = readEnvReg e r := by
  cases r with
  | gate | attack | decay | sustain | release => rfl
  | _ => exact absurd (by decide) hr

theorem readEnvReg_envDefault {r : EnvReg} (hr : r ∉ envWritten) (e : EnvUnit) :
    readEnvReg (envDefault e) r = readEnvReg e r := by
  cases r with
  | gate | attack | decay | sustain | release => rfl
  | _ => exact absurd (by decide) hr

/-- Both branches of the advance write result registers only. -/
theorem readLfoReg_lfoStep {r : LfoReg} (hr : r ∉ lfoWritten) (rate : Word) (l : LfoUnit) :
    readLfoReg (lfoStep rate l) r = readLfoReg l r := by
  simp only [lfoStep, lfoAdvance]
  cases r with
  | gate | freq | depth | options | seedLo | seedHi => split <;> rfl
  | _ => exact absurd (by decide) hr

theorem readLfoReg_lfoConstruct {r : LfoReg} (hr : r ∉ lfoWritten) (l : LfoUnit) :
    readLfoReg (lfoConstruct l) r = readLfoReg l r := by
  cases r with
  | gate | freq | depth | options | seedLo | seedHi => rfl
  | _ => exact absurd (by decide) hr

/-- The sync input of oscillator 0 in `OSC.PAIR` (`41_oscillator.md` R151). -/
def pairSyncIn0 (sync : Bool) : OscSync := if sync then .primary else .off

/-- The sync input of oscillator 1 in `OSC.PAIR`: oscillator 0's report (R151). -/
def pairSyncIn1 (sync : Bool) (s : State) : OscSync :=
  if sync then (oscSample s.ctxRate s.osc0.note (pairSyncIn0 sync) s.osc0).2 else .off

/-- `OSC.PAIR` is two replacements, oscillator 0 first (R151). -/
theorem oscPairOn_eq (sync : Bool) (s : State) :
    oscPairOn sync s = setOsc 1 (oscStep s.ctxRate s.osc0.note (pairSyncIn1 sync s) s.osc1)
      (setOsc 0 (oscStep s.ctxRate s.osc0.note (pairSyncIn0 sync) s.osc0) s) := rfl

/-! ### The frame of every command -/

theorem acts_system {i : Instr} {f : State → State} (h : Acts i f) (s : State) :
    (f s).ctxRate = s.ctxRate ∧ (f s).status = s.status ∧ (f s).errInfo = s.errInfo ∧ (f s).host = s.host ∧
      (f s).answers = s.answers := by
  cases h with
  | oscPair sync =>
    rw [oscPairOn_eq]
    simp
  | filtNext =>
    rw [filtNextOn_eq]
    exact setFilt_system _ s
  | filtRst => exact setFilt_system _ s
  | _ => simp [oscNextOn, envNextOn, lfoNextOn]

theorem writes_of_math {i : Instr} (hi : i ∈ mathCommands) (r : Reg) : Writes i r ↔ r = .mathRes ∨ r = .mathExp := by
  simp only [mathCommands, List.mem_cons, List.not_mem_nil, or_false] at hi
  obtain rfl | rfl | rfl | rfl | rfl | rfl | rfl := hi <;> exact Iff.rfl

/-- A command that executes keeps every register its rule does not list as written. -/
theorem acts_frame {i : Instr} {f : State → State} (h : Acts i f) (s : State) {r : Reg} (hr : ¬Writes i r) :
    readReg r (f s) = readReg r s := by
  cases h with
  | nop => rfl
  | math hi =>
    rw [writes_of_math hi, not_or] at hr
    obtain ⟨hres, hexp⟩ := hr
    exact readReg_mathResult hres hexp _ _ s
  | oscNext hu =>
    rw [oscNextOn, readReg_setOsc]
    rintro r' rfl
    exact readOscReg_oscStep (fun hm => hr ⟨rfl, hm⟩) _ _ _ _
  | oscPair sync =>
    rw [oscPairOn_eq, readReg_setOsc, readReg_setOsc]
    · rintro r' rfl
      exact readOscReg_oscStep hr _ _ _ _
    · rintro r' rfl
      exact readOscReg_oscStep hr _ _ _ _
  | oscRst hu =>
    rw [readReg_setOsc]
    rintro r' rfl
    exact readOscReg_oscDefault (fun hm => hr ⟨rfl, hm⟩) _
  | filtNext =>
    rw [filtNextOn_eq, readReg_setFilt]
    rintro r' rfl
    exact readFiltReg_filtStep hr _ _
  | filtRst =>
    rw [readReg_setFilt]
    rintro r' rfl
    exact readFiltReg_filtDefault hr _
  | envNext hu =>
    rw [envNextOn, readReg_setEnv]
    rintro r' rfl
    exact readEnvReg_envStep (fun hm => hr ⟨rfl, hm⟩) _ _
  | envRst hu =>
    rw [readReg_setEnv]
    rintro r' rfl
    exact readEnvReg_envDefault (fun hm => hr ⟨rfl, hm⟩) _
  | lfoNext hu =>
    rw [lfoNextOn, readReg_setLfo]
    rintro r' rfl
    exact readLfoReg_lfoStep (fun hm => hr ⟨rfl, hm⟩) _ _
  | lfoSeed hu =>
    rw [readReg_setLfo]
    rintro r' rfl
    exact readLfoReg_lfoConstruct (fun hm => hr ⟨rfl, hm⟩) _

/-- Settles O19. -/
theorem commandsChangeOnlyTheirRegisters : Obligations.CommandsChangeOnlyTheirRegisters := by
  intro i s
  obtain ⟨hrep, e, hx⟩ | ⟨hno, f, hf, hx⟩ := exec_cases i s
  · exact ⟨_, hx, rfl, rfl, fun _ => rfl, fun hn => absurd hrep hn⟩
  · obtain ⟨-, hstatus, herr, hhost, hans⟩ := acts_system hf s
    exact ⟨f s, hx, hhost, hans, fun h => absurd h hno, fun _ => ⟨hstatus, herr, fun _ hr => acts_frame hf s hr⟩⟩

/-! ### Inputs are never written -/

/-- The registers in a command's "Writes" are read-only to the host (`10_state.md` R21, R27). -/
theorem access_of_writes {i : Instr} {r : Reg} (h : Writes i r) : r.access = .ro := by
  have osc : ∀ r' ∈ oscWritten, ∀ v, (Reg.osc v r').access = .ro := by decide
  have filt : ∀ r' ∈ filtWritten, (Reg.filt r').access = .ro := by decide
  have env : ∀ r' ∈ envWritten, ∀ v, (Reg.env v r').access = .ro := by decide
  have lfo : ∀ r' ∈ lfoWritten, ∀ v, (Reg.lfo v r').access = .ro := by decide
  unfold Writes at h
  split at h
  case h_8 | h_9 => exact osc _ h.2 _
  case h_10 => exact osc _ h _
  case h_11 | h_12 => exact filt _ h
  case h_13 | h_14 => exact env _ h.2 _
  case h_15 | h_16 => exact lfo _ h.2 _
  case h_17 => exact h.elim
  all_goals obtain rfl | rfl := h <;> rfl

/-- Settles O20: what a report changes, `STATUS` and `ERRINFO`, and what a command writes is read-only to the host. -/
theorem commandsNeverWriteInputs : Obligations.CommandsNeverWriteInputs := by
  intro i s t hx r hr
  have hro : r.access ≠ .ro := by obtain h | h := hr <;> simp [h]
  obtain ⟨e, rfl⟩ | ⟨f, hf, rfl⟩ := exec_next_cases hx
  · exact readReg_report (by rintro rfl; exact hro rfl) (by rintro rfl; exact hro rfl) _ _ s
  · exact acts_frame hf s fun hw => hro (access_of_writes hw)

end Sys2Proof.Proofs
end

section
/-! SUPPORT. What taking one event can do, said once, and what follows of `STATUS`: O17 (`10_state.md` R25). -/

namespace Sys2Proof.Proofs

open Sys2Proof.Machine Sys2Proof.Claims

/-! ### The outcome of an event -/

/-- What the block's state becomes when it takes an event and goes on (`20_memory.md` R61, `45_system.md` R220, R224,
`70_reset_and_hazards.md` R260). -/
inductive Takes (s : State) : HostEvent → State → Prop
  | records (a d e info) : Takes s (.wr a d) (report e info s)
  | makesContext (a) {d} (h : d = 44100 ∨ d = 48000) :
      Takes s (.wr a d) { s with ctxRate := d, status := setCtxValid s.status }
  | stores (a d) {r} (h : r.access = .rw) : Takes s (.wr a d) (writeReg r d s)
  | executes (a d) {i f} (h : Acts i f) : Takes s (.wr a d) (f s)
  | recordsRead (a e info d) : Takes s (.rd a) (answer d (report e info s))
  | answers (a d) : Takes s (.rd a) (answer d s)
  | resets : Takes s .hwReset (hardwareReset s)

theorem takes_of_perform {c : Word} {s t : State} (a : RegNum) (h : perform c s = .next t) : Takes s (.wr a c) t := by
  obtain ⟨-, -, hp⟩ | ⟨-, -, hp⟩ | ⟨i, -, hp⟩ := perform_cases c s
  · cases hp.symm.trans h
    exact .records _ _ _ _
  · cases hp.symm.trans h
    exact .records _ _ _ _
  · obtain ⟨e, rfl⟩ | ⟨f, hf, rfl⟩ := exec_next_cases (hp.symm.trans h)
    · exact .records _ _ _ _
    · exact .executes _ _ hf

theorem takes_of_hostWrite {a : RegNum} {d : Word} {s t : State} (h : hostWrite a d s = .next t) :
    Takes s (.wr a d) t := by
  obtain ⟨-, hw⟩ | ⟨-, -, -, hw⟩ | ⟨-, -, -, hw⟩ | ⟨-, -, -, hw⟩ | ⟨r, -, hrw, hw⟩ := hostWrite_cases a d s
  · cases hw.symm.trans h
    exact .records _ _ _ _
  · cases hw.symm.trans h
    exact .records _ _ _ _
  · exact takes_of_perform a (hw.symm.trans h)
  · cases hw.symm.trans h
    obtain ⟨hd, hrate⟩ | ⟨-, -, hrate⟩ := writeCtxRate_cases d s
    · exact hrate ▸ .makesContext a hd
    · exact hrate ▸ .records _ _ _ _
  · cases hw.symm.trans h
    exact .stores a d hrw

theorem takes_of_deliver {e : HostEvent} {s t : State} (h : deliver e s = .next t) : Takes s e t := by
  cases e with
  | wr a d => exact takes_of_hostWrite h
  | rd a =>
    cases h
    obtain ⟨hr, -⟩ | ⟨r, -, -, hr⟩ := hostRead_cases a s
    · exact hr ▸ .recordsRead _ _ _ _
    · exact hr ▸ .answers _ _
  | hwReset =>
    cases h
    exact .resets
  | otherHost => cases h

/-- A step that goes on is idle or takes the head of the list. -/
theorem step_next_cases {s t : State} (h : step s = .next t) :
    (s.host = [] ∧ t = s) ∨ ∃ e rest, s.host = e :: rest ∧ Takes { s with host := rest } e t := by
  cases hs : s.host with
  | nil => exact .inl ⟨rfl, by simpa using h.symm.trans (step_of_nil s hs)⟩
  | cons e rest => exact .inr ⟨e, rest, rfl, takes_of_deliver ((step_of_cons s e rest hs).symm.trans h)⟩

/-! ### `STATUS` after a step -/

@[simp] theorem writeReg_status (r : Reg) (d : Word) (s : State) : (writeReg r d s).status = s.status := by
  cases r <;> simp [writeReg]

/-- `STATUS` is kept, or an error is recorded in it, or `CTX_VALID` is set, unless the event is a hardware reset. -/
theorem status_of_takes {s t : State} {e : HostEvent} (h : Takes s e t) (he : e ≠ .hwReset) :
    t.status = s.status ∨ (∃ c, t.status = recordCause c s.status) ∨ t.status = setCtxValid s.status := by
  cases h with
  | records a d c info => exact .inr (.inl ⟨c, rfl⟩)
  | makesContext => exact .inr (.inr rfl)
  | stores a d => exact .inl (writeReg_status _ d s)
  | executes a d hf =>
    obtain ⟨-, hstatus, -⟩ := acts_system hf s
    exact .inl hstatus
  | recordsRead a c info d => exact .inr (.inl ⟨c, rfl⟩)
  | answers => exact .inl rfl
  | resets => exact absurd rfl he

theorem status_of_step {s t : State} (h : step s = .next t) (hr : s.host.head? ≠ some .hwReset) :
    t.status = s.status ∨ (∃ c, t.status = recordCause c s.status) ∨ t.status = setCtxValid s.status := by
  obtain ⟨-, rfl⟩ | ⟨e, rest, hs, ht⟩ := step_next_cases h
  · exact .inl rfl
  · have he : e ≠ .hwReset := by
      rintro rfl
      simp [hs] at hr
    exact status_of_takes (s := { s with host := rest }) ht he

/-- What only a hardware reset takes back: a set bit 0 or 12:8, and a non-zero last cause. -/
def StatusKept (st st' : BitVec 13) : Prop :=
  (∀ k, k = 0 ∨ (8 ≤ k ∧ k ≤ 12) → st.getLsbD k = true → st'.getLsbD k = true) ∧ (lastCause st ≠ 0 → lastCause st' ≠ 0)

theorem statusKept_recordCause (e : ErrCause) (st : BitVec 13) : StatusKept st (recordCause e st) := by
  refine ⟨fun k hk hset => ?_, fun _ => ?_⟩
  · have hfield : ¬(4 ≤ k ∧ k < 8) := by omega
    rw [getLsbD_recordCause e st k (by omega), if_neg hfield, hset, ite_self]
  · rw [lastCause_recordCause]
    cases e <;> decide

theorem statusKept_setCtxValid (st : BitVec 13) : StatusKept st (setCtxValid st) := by
  refine ⟨fun k hk hset => ?_, fun h => by rwa [lastCause_setCtxValid]⟩
  rw [getLsbD_setCtxValid st k (by omega), hset, ite_self]

/-- Settles O17. -/
theorem onlyResetClearsStatus : Obligations.OnlyResetClearsStatus := by
  intro s t hr h
  have hkept : StatusKept s.status t.status := by
    obtain hst | ⟨c, hst⟩ | hst := status_of_step h hr
    · exact hst ▸ ⟨fun _ _ hset => hset, id⟩
    · exact hst ▸ statusKept_recordCause c s.status
    · exact hst ▸ statusKept_setCtxValid s.status
  exact hkept

end Sys2Proof.Proofs
end

section
/-! SUPPORT. The invariants of the registers: they hold after reset (O15) and every step keeps them (O16). One lemma per
unit says that its sample, its reset and the host's write leave the unit legal. -/

namespace Sys2Proof.Proofs

open Sys2Proof.Machine Sys2Proof.Claims

/-! ### `STATUS` (`10_state.md` R25) -/

/-- Two words with the same bits in a field have the same field. -/
theorem extractLsb'_congr {w : Nat} {x y : BitVec w} {start len : Nat}
    (h : ∀ k, start ≤ k → k < start + len → x.getLsbD k = y.getLsbD k) :
    x.extractLsb' start len = y.extractLsb' start len := by
  refine BitVec.eq_of_getLsbD_eq fun k hk => ?_
  simp only [BitVec.getLsbD_extractLsb', hk, decide_true, Bool.true_and]
  exact h _ (by omega) (by omega)

/-- A field with a set bit is not zero. -/
theorem extractLsb'_ne_zero {w : Nat} {x : BitVec w} {start len k : Nat} (hlo : start ≤ k) (hhi : k < start + len)
    (hk : x.getLsbD k = true) : x.extractLsb' start len ≠ 0 := by
  intro h
  have hbit : (x.extractLsb' start len).getLsbD (k - start) = true := by
    have hlen : k - start < len := by omega
    rw [BitVec.getLsbD_extractLsb', Nat.add_sub_cancel' hlo, hk]
    simp [hlen]
  simp [h] at hbit

theorem causeBit_eq (e : ErrCause) : causeBit e = 7 + (causeCode e).toNat := by cases e <;> rfl

theorem causeCode_toNat_bounds (e : ErrCause) : 1 ≤ (causeCode e).toNat ∧ (causeCode e).toNat ≤ 5 := by
  cases e <;> decide

theorem causeCode_ne_zero (e : ErrCause) : causeCode e ≠ 0 := by cases e <;> decide

/-- Recording an error makes the last cause agree with its own sticky bit, whatever was recorded before. -/
theorem statusLegal_recordCause (e : ErrCause) {st : BitVec 13} (h : StatusLegal st) :
    StatusLegal (recordCause e st) := by
  obtain ⟨hreserved, -⟩ := h
  obtain ⟨hcode₁, hcode₂⟩ := causeCode_toNat_bounds e
  have hset : (recordCause e st).getLsbD (7 + (causeCode e).toNat) = true := by
    rw [getLsbD_recordCause e st _ (by omega), if_pos (causeBit_eq e).symm]
  have hsticky : (recordCause e st).extractLsb' 8 5 ≠ 0 := extractLsb'_ne_zero (by omega) (by omega) hset
  refine ⟨?_, by rwa [lastCause_recordCause], ?_, fun _ => by rwa [lastCause_recordCause]⟩
  · rw [← hreserved]
    refine extractLsb'_congr fun k hlo hhi => ?_
    have hbit : k ≠ causeBit e := by rw [causeBit_eq]; omega
    rw [getLsbD_recordCause e st k (by omega), if_neg hbit, if_neg (by omega)]
  · rw [lastCause_recordCause]
    exact iff_of_false (causeCode_ne_zero e) hsticky

/-- Making a context touches bit 0 only. -/
theorem statusLegal_setCtxValid {st : BitVec 13} (h : StatusLegal st) : StatusLegal (setCtxValid st) := by
  have hbit {k : Nat} (hlo : 1 ≤ k) (hhi : k < 13) : (setCtxValid st).getLsbD k = st.getLsbD k := by
    rw [getLsbD_setCtxValid st k hhi, if_neg (by omega)]
  have hfield {start len : Nat} (hlo : 1 ≤ start) (hhi : start + len ≤ 13) :
      (setCtxValid st).extractLsb' start len = st.extractLsb' start len :=
    extractLsb'_congr fun k hk hk' => hbit (by omega) (by omega)
  obtain ⟨hreserved, hcode, hagree, hset⟩ := h
  rw [StatusLegal, lastCause_setCtxValid, hfield (by decide) (by decide), hfield (by decide) (by decide)]
  exact ⟨hreserved, hcode, hagree, fun hne => by rw [hbit (by omega) (by omega)]; exact hset hne⟩

/-! ### Oscillators (`10_state.md` R30, `30_encoding.md` R102) -/

theorem encodeSync_secondary_tag (c : Scalar) : (encodeSync (.secondary c)).toNat / 65536 = 2 := by
  have hc : c.toNat < 2 ^ 16 := c.isLt
  have hor : 2 <<< 16 ||| c.toNat = 2 <<< 16 + c.toNat := (Nat.shiftLeft_add_eq_or_of_lt hc 2).symm
  simp only [encodeSync, BitVec.toNat_or, BitVec.toNat_setWidth]
  rw [Nat.mod_eq_of_lt (by omega), show (0x20000#18).toNat = 2 <<< 16 from rfl, hor]
  omega

/-- The new phase is a reduced one, and the sync output is never `Primary` (`41_oscillator.md` R148). -/
theorem oscLegal_oscStep (rate : Word) (note : Note) (sync : OscSync) (o : OscUnit) :
    OscLegal (oscStep rate note sync o) := by
  let r := oscRates (phaseStep rate (effNote note o.tune)) (shapeUsed o.shape)
  have hphase : (oscStep rate note sync o).phase = to32 (advance r (s32 o.phase) sync).1 := rfl
  have hsync : (oscStep rate note sync o).syncOut = encodeSync (advance r (s32 o.phase) sync).2 := rfl
  rw [OscLegal, hphase, hsync]
  constructor
  · obtain ⟨hlo, hhi⟩ := reducePhase_bounds (wrapTop r (advanceRaw r (s32 o.phase) sync).1)
    have hread := s32_to32 (advance r (s32 o.phase) sync).1 (by rw [advance]; omega) (by rw [advance]; omega)
    rw [← s32, hread]
    exact ⟨hlo, hhi⟩
  · obtain hoff | ⟨c, hc⟩ := advance_syncOut r (s32 o.phase) sync
    · exact .inl (by rw [hoff]; rfl)
    · exact .inr (by rw [hc]; exact encodeSync_secondary_tag c)

theorem oscLegal_oscDefault (o : OscUnit) : OscLegal (oscDefault o) := by simp [OscLegal, oscDefault]

theorem oscLegal_writeOscReg {o : OscUnit} (h : OscLegal o) (r : OscReg) (d : Word) : OscLegal (writeOscReg r d o) := by
  cases r <;> exact h

/-! ### Envelopes (`10_state.md` R32) -/

/-- A signal stored in `LAST` and its scaled copy in `OUT` (`43_envelope.md` R188, R189). -/
theorem envLegal_of_signals {e : EnvUnit} {last sp : Int} (hlast : 32768 ≤ last ∧ last ≤ 536862720)
    (hsp : 32768 ≤ sp ∧ sp ≤ 536862720) (hl : e.last = to32 last) (hs : e.spPrev = to32 sp)
    (ho : e.out = to16 (envOut last)) : EnvLegal e := by
  obtain ⟨hl₁, hl₂⟩ := hlast
  obtain ⟨hs₁, hs₂⟩ := hsp
  have hlastRead : e.last.toInt = last := by rw [hl]; exact s32_to32 last (by omega) (by omega)
  have hspRead : e.spPrev.toInt = sp := by rw [hs]; exact s32_to32 sp (by omega) (by omega)
  have hasr : asr last 13 = last / 8192 := rfl
  have hout : envOut last = last / 8192 := by
    rw [envOut, hasr, satU16]
    exact clamp_of_mem _ _ _ (by omega) (by omega)
  have houtRead : (e.out.toNat : Int) = last / 8192 := by
    rw [ho, hout]
    exact u16_to16 _ (by omega) (by omega)
  exact ⟨by omega, by omega, by omega⟩

theorem envLegal_envStep (rate : Word) (e : EnvUnit) : EnvLegal (envStep rate e) :=
  envLegal_of_signals (envSmooth_bounds _ _ _ _ _) (envSetpoint_bounds _ _) rfl rfl rfl

theorem envLegal_envDefault (e : EnvUnit) : EnvLegal (envDefault e) :=
  envLegal_of_signals (last := signalMin) (sp := signalMin) (by decide) (by decide) rfl rfl rfl

theorem envLegal_writeEnvReg {e : EnvUnit} (h : EnvLegal e) (r : EnvReg) (d : Word) : EnvLegal (writeEnvReg r d e) := by
  cases r <;> exact h

/-! ### LFOs (`10_state.md` R33) -/

/-- A left shift by a positive amount moves every word but 0. -/
theorem eq_zero_of_xor_shiftLeft {p : Prng} (n : Nat) (hn : 0 < n) (h : p ^^^ (p <<< n) = 0) : p = 0 := by
  have hp : p = p <<< n := BitVec.xor_eq_zero_iff.1 h
  have hbit (k : Nat) : p.getLsbD k = false := by
    induction k using Nat.strong_induction_on with
    | _ k ih =>
      rw [hp, BitVec.getLsbD_shiftLeft]
      by_cases hk : k < n
      · simp [hk]
      · simp [ih (k - n) (by omega)]
  exact BitVec.eq_of_getLsbD_eq fun k _ => by simpa using hbit k

/-- A right shift by a positive amount moves every word but 0. -/
theorem eq_zero_of_xor_ushiftRight {p : Prng} (n : Nat) (hn : 0 < n) (h : p ^^^ (p >>> n) = 0) : p = 0 := by
  have hp : p = p >>> n := BitVec.xor_eq_zero_iff.1 h
  have hnat : p.toNat = p.toNat / 2 ^ n := by
    conv_lhs => rw [hp]
    rw [BitVec.toNat_ushiftRight, Nat.shiftRight_eq_div_pow]
  have hzero : p.toNat = 0 := by
    by_contra hne
    have := Nat.div_lt_self (Nat.pos_of_ne_zero hne) (Nat.one_lt_two_pow hn.ne')
    omega
  exact BitVec.eq_of_toNat_eq (by simpa using hzero)

/-- The generator never steps to 0 from another state (`44_lfo.md` R203). -/
theorem prngStep_ne_zero {p : Prng} (h : p ≠ 0) : prngStep p ≠ 0 := fun hstep =>
  h (eq_zero_of_xor_shiftLeft 13 (by decide)
    (eq_zero_of_xor_ushiftRight 7 (by decide) (eq_zero_of_xor_shiftLeft 17 (by decide) hstep)))

theorem lfoPrng_eq_zero_iff (l : LfoUnit) : lfoPrng l = 0 ↔ l.prngHi = 0 ∧ l.prngLo = 0 := by
  constructor
  · intro h
    have hhi : (lfoPrng l).extractLsb' 32 32 = l.prngHi := BitVec.extractLsb'_append_eq_left
    have hlo : (lfoPrng l).extractLsb' 0 32 = l.prngLo := BitVec.extractLsb'_append_eq_right
    exact ⟨by rw [← hhi, h]; rfl, by rw [← hlo, h]; rfl⟩
  · rintro ⟨hhi, hlo⟩
    rw [lfoPrng, hhi, hlo]
    rfl

theorem lfoLegal_of_phase {l : LfoUnit} {phase : Int} (hp : l.phase = to32 phase)
    (hphase : -843314857 ≤ phase ∧ phase < 843314857) (hprng : lfoPrng l ≠ 0) : LfoLegal l := by
  obtain ⟨hlo, hhi⟩ := hphase
  have hread : l.phase.toInt = phase := by rw [hp]; exact s32_to32 phase (by omega) (by omega)
  exact ⟨⟨by omega, by omega⟩, fun hz => hprng ((lfoPrng_eq_zero_iff l).2 hz)⟩

/-- The phase increment is positive or 0 and far below a turn (`44_lfo.md` R207). -/
theorem lfoStepSize_bounds (rate : Word) (freq : BitVec 16) :
    0 ≤ lfoStepSize rate (u16 freq) ∧ lfoStepSize rate (u16 freq) ≤ 2097088 := by
  obtain ⟨hk₀, hk₁⟩ := k1_bounds rate
  obtain ⟨hf₀, hf₁⟩ := u16_bounds freq
  have hprod : u16 freq * k1 rate ≤ 65535 * 65535 := mul_le_mul hf₁ hk₁ hk₀ (by decide)
  exact asr_bounds _ 0 2097088 11 (by simpa using mul_nonneg hf₀ hk₀) (by omega)

theorem lfoLegal_lfoAdvance {l : LfoUnit} {phase : Int} (rate : Word)
    (hphase : -843314857 ≤ phase ∧ phase < 843314857) (hprng : lfoPrng l ≠ 0) :
    LfoLegal (lfoAdvance rate phase l) := by
  obtain ⟨hstep₀, hstep₁⟩ := lfoStepSize_bounds rate l.freq
  have hpi : pi28 = 843314857 := rfl
  have hturn : twoPi28 = 1686629714 := rfl
  by_cases hwrap : pi28 ≤ phase + lfoStepSize rate (u16 l.freq)
  · rw [lfoAdvance, if_pos hwrap]
    exact lfoLegal_of_phase (phase := phase + lfoStepSize rate (u16 l.freq) - twoPi28) rfl (by omega)
      (by rw [lfoPrng_setPrng]; exact prngStep_ne_zero hprng)
  · rw [lfoAdvance, if_neg hwrap]
    exact lfoLegal_of_phase (phase := phase + lfoStepSize rate (u16 l.freq)) rfl (by omega) hprng

theorem lfoStartPhase_bounds {l : LfoUnit} (h : LfoLegal l) :
    -843314857 ≤ lfoStartPhase l ∧ lfoStartPhase l < 843314857 := by
  obtain ⟨hphase, -⟩ := h
  unfold lfoStartPhase
  split
  · decide
  · exact hphase

theorem lfoLegal_lfoStep (rate : Word) {l : LfoUnit} (h : LfoLegal l) : LfoLegal (lfoStep rate l) := by
  have hstart := lfoStartPhase_bounds h
  obtain ⟨-, hprng⟩ := h
  exact lfoLegal_lfoAdvance rate hstart fun hz => hprng ((lfoPrng_eq_zero_iff l).1 hz)

theorem lfoLegal_lfoConstruct (l : LfoUnit) : LfoLegal (lfoConstruct l) :=
  lfoLegal_of_phase (phase := 0) rfl (by decide) (by rw [lfoConstruct, lfoPrng_setPrng]; exact seedState_ne_zero _)

theorem lfoLegal_writeLfoReg {l : LfoUnit} (h : LfoLegal l) (r : LfoReg) (d : Word) : LfoLegal (writeLfoReg r d l) := by
  cases r <;> exact h

/-! ### The invariants when a unit is replaced -/

theorem inv_setOsc {s : State} (h : Inv s) (u : Fin 2) {x : OscUnit} (hx : OscLegal x) : Inv (setOsc u x s) := by
  obtain ⟨hrate, hctx, hstatus, ho₀, ho₁, hunits⟩ := h
  match u with
  | 0 => exact ⟨hrate, hctx, hstatus, hx, ho₁, hunits⟩
  | 1 => exact ⟨hrate, hctx, hstatus, ho₀, hx, hunits⟩

theorem inv_setEnv {s : State} (h : Inv s) (e : Fin 4) {x : EnvUnit} (hx : EnvLegal x) : Inv (setEnv e x s) := by
  obtain ⟨hrate, hctx, hstatus, ho₀, ho₁, he₀, he₁, he₂, he₃, hlfos⟩ := h
  match e with
  | 0 => exact ⟨hrate, hctx, hstatus, ho₀, ho₁, hx, he₁, he₂, he₃, hlfos⟩
  | 1 => exact ⟨hrate, hctx, hstatus, ho₀, ho₁, he₀, hx, he₂, he₃, hlfos⟩
  | 2 => exact ⟨hrate, hctx, hstatus, ho₀, ho₁, he₀, he₁, hx, he₃, hlfos⟩
  | 3 => exact ⟨hrate, hctx, hstatus, ho₀, ho₁, he₀, he₁, he₂, hx, hlfos⟩

theorem inv_setLfo {s : State} (h : Inv s) (l : Fin 2) {x : LfoUnit} (hx : LfoLegal x) : Inv (setLfo l x s) := by
  obtain ⟨hrate, hctx, hstatus, ho₀, ho₁, he₀, he₁, he₂, he₃, hl₀, hl₁⟩ := h
  match l with
  | 0 => exact ⟨hrate, hctx, hstatus, ho₀, ho₁, he₀, he₁, he₂, he₃, hx, hl₁⟩
  | 1 => exact ⟨hrate, hctx, hstatus, ho₀, ho₁, he₀, he₁, he₂, he₃, hl₀, hx⟩

theorem inv_setFilt {s : State} (h : Inv s) (x : FiltUnit) : Inv (setFilt x s) := h

theorem oscLegal_getOsc {s : State} (h : Inv s) (u : Fin 2) : OscLegal (getOsc u s) := by
  obtain ⟨-, -, -, ho₀, ho₁, -⟩ := h
  match u with
  | 0 => exact ho₀
  | 1 => exact ho₁

theorem envLegal_getEnv {s : State} (h : Inv s) (e : Fin 4) : EnvLegal (getEnv e s) := by
  obtain ⟨-, -, -, -, -, he₀, he₁, he₂, he₃, -⟩ := h
  match e with
  | 0 => exact he₀
  | 1 => exact he₁
  | 2 => exact he₂
  | 3 => exact he₃

theorem lfoLegal_getLfo {s : State} (h : Inv s) (l : Fin 2) : LfoLegal (getLfo l s) := by
  obtain ⟨-, -, -, -, -, -, -, -, -, hl₀, hl₁⟩ := h
  match l with
  | 0 => exact hl₀
  | 1 => exact hl₁

/-! ### Everything a step can do keeps the invariants -/

theorem inv_report {s : State} (h : Inv s) (e : ErrCause) (info : Word) : Inv (report e info s) := by
  obtain ⟨hrate, hctx, hstatus, hunits⟩ := h
  refine ⟨hrate, ?_, statusLegal_recordCause e hstatus, hunits⟩
  rwa [ContextAgrees, report_status, ctxValid_recordCause]

theorem inv_answer {s : State} (h : Inv s) (d : Word) : Inv (answer d s) := h

theorem inv_makesContext {s : State} (h : Inv s) {d : Word} (hd : d = 44100 ∨ d = 48000) :
    Inv { s with ctxRate := d, status := setCtxValid s.status } := by
  obtain ⟨-, -, hstatus, hunits⟩ := h
  have hne : d ≠ 0 := by obtain rfl | rfl := hd <;> decide
  exact ⟨.inr hd, iff_of_true (ctxValid_setCtxValid _) hne, statusLegal_setCtxValid hstatus, hunits⟩

theorem inv_writeReg {s : State} (h : Inv s) (r : Reg) (d : Word) : Inv (writeReg r d s) := by
  cases r with
  | osc u r => exact inv_setOsc h u (oscLegal_writeOscReg (oscLegal_getOsc h u) r d)
  | env e r => exact inv_setEnv h e (envLegal_writeEnvReg (envLegal_getEnv h e) r d)
  | lfo l r => exact inv_setLfo h l (lfoLegal_writeLfoReg (lfoLegal_getLfo h l) r d)
  | _ => exact h

theorem inv_mathResult {s : State} (h : Inv s) (res exp : Int) : Inv (mathResult res exp s) := h

theorem inv_of_acts {i : Instr} {f : State → State} (hf : Acts i f) {s : State} (h : Inv s) : Inv (f s) := by
  cases hf with
  | nop => exact h
  | math hi res exp => exact inv_mathResult h _ _
  | oscNext hu => exact inv_setOsc h _ (oscLegal_oscStep _ _ _ _)
  | oscPair sync =>
    rw [oscPairOn_eq]
    exact inv_setOsc (inv_setOsc h 0 (oscLegal_oscStep _ _ _ _)) 1 (oscLegal_oscStep _ _ _ _)
  | oscRst hu => exact inv_setOsc h _ (oscLegal_oscDefault _)
  | filtNext =>
    rw [filtNextOn_eq]
    exact inv_setFilt h _
  | filtRst => exact inv_setFilt h _
  | envNext hu => exact inv_setEnv h _ (envLegal_envStep _ _)
  | envRst hu => exact inv_setEnv h _ (envLegal_envDefault _)
  | lfoNext hu => exact inv_setLfo h _ (lfoLegal_lfoStep _ (lfoLegal_getLfo h _))
  | lfoSeed hu => exact inv_setLfo h _ (lfoLegal_lfoConstruct _)

theorem inv_reset : Inv State.reset := by decide

/-- Settles O15. -/
theorem invariantsHoldAtReset : Obligations.InvariantsHoldAtReset := ⟨inv_reset, by decide⟩

theorem inv_of_takes {s t : State} {e : HostEvent} (h : Inv s) (ht : Takes s e t) : Inv t := by
  cases ht with
  | records a d c info => exact inv_report h c info
  | makesContext a hd => exact inv_makesContext h hd
  | stores a d => exact inv_writeReg h _ d
  | executes a d hf => exact inv_of_acts hf h
  | recordsRead a c info d => exact inv_answer (inv_report h c info) d
  | answers a d => exact inv_answer h d
  | resets => exact inv_reset

/-- Settles O16: an idle step keeps the state; otherwise the event is taken from a state with the same registers. -/
theorem everyStepKeepsTheInvariants : Obligations.EveryStepKeepsTheInvariants := by
  intro s t hs h
  obtain ⟨-, rfl⟩ | ⟨e, rest, -, ht⟩ := step_next_cases h
  · exact hs
  · exact inv_of_takes (s := { s with host := rest }) hs ht

end Sys2Proof.Proofs
end

section
/-! SUPPORT. What a command writes depends only on what it reads: O21 (`10_state.md` R29). For each unit, a sample of two
units that agree on the registers read gives the same unit but for the inputs, which are kept. -/

namespace Sys2Proof.Proofs

open Sys2Proof.Machine Sys2Proof.Claims

/-! ### Reading loses nothing -/

theorem setWidth_injective {w : Nat} (hw : w ≤ 32) {x y : BitVec w} (h : x.setWidth 32 = y.setWidth 32) : x = y := by
  refine BitVec.eq_of_toNat_eq ?_
  rw [← BitVec.toNat_setWidth_of_le hw, h, BitVec.toNat_setWidth_of_le hw]

theorem zext16_injective {x y : BitVec 16} (h : zext16 x = zext16 y) : x = y := setWidth_injective (by decide) h

theorem envStateCode_injective {x y : EnvState} (h : envStateCode x = envStateCode y) : x = y := by
  revert h
  cases x <;> cases y <;> decide

/-! ### The inputs of a unit -/

/-- The oscillator `o` with the inputs and parameters of `i`. -/
def oscWithInputs (i o : OscUnit) : OscUnit :=
  { o with note := i.note, tune := i.tune, shape := i.shape, syncIn := i.syncIn }

/-- The filter `f` with the input and parameters of `i`. -/
def filtWithInputs (i f : FiltUnit) : FiltUnit := { f with input := i.input, cutoff := i.cutoff, res := i.res }

/-- The envelope `e` with the gate and parameters of `i`. -/
def envWithInputs (i e : EnvUnit) : EnvUnit :=
  { e with gate := i.gate, attack := i.attack, decay := i.decay, sustain := i.sustain, release := i.release }

/-- The LFO `l` with the gate, parameters and seed of `i`. -/
def lfoWithInputs (i l : LfoUnit) : LfoUnit :=
  { l with gate := i.gate, freq := i.freq, depth := i.depth, options := i.options, seedLo := i.seedLo, seedHi := i.seedHi }

theorem readOscReg_oscWithInputs (i o : OscUnit) {r : OscReg} (h : r ∈ oscWritten) :
    readOscReg (oscWithInputs i o) r = readOscReg o r := by
  cases r with
  | note | tune | shape | syncIn => exact absurd h (by decide)
  | _ => rfl

theorem readFiltReg_filtWithInputs (i f : FiltUnit) {r : FiltReg} (h : r ∈ filtWritten) :
    readFiltReg (filtWithInputs i f) r = readFiltReg f r := by
  cases r with
  | input | cutoff | res => exact absurd h (by decide)
  | _ => rfl

theorem readEnvReg_envWithInputs (i e : EnvUnit) {r : EnvReg} (h : r ∈ envWritten) :
    readEnvReg (envWithInputs i e) r = readEnvReg e r := by
  cases r with
  | gate | attack | decay | sustain | release => exact absurd h (by decide)
  | _ => rfl

theorem readLfoReg_lfoWithInputs (i l : LfoUnit) {r : LfoReg} (h : r ∈ lfoWritten) :
    readLfoReg (lfoWithInputs i l) r = readLfoReg l r := by
  cases r with
  | gate | freq | depth | options | seedLo | seedHi => exact absurd h (by decide)
  | _ => rfl

/-! ### Two units that agree on what is read -/

/-- A sample of an oscillator depends on its tune, shape and phase, and on the note and the sync input given to it. -/
theorem oscStep_congr (rate : Word) (note : Note) (sync : OscSync) {o₁ o₂ : OscUnit} (htune : o₁.tune = o₂.tune)
    (hshape : o₁.shape = o₂.shape) (hphase : o₁.phase = o₂.phase) :
    oscStep rate note sync o₁ = oscWithInputs o₁ (oscStep rate note sync o₂) := by
  simp only [oscStep, oscSample, oscWithInputs, htune, hshape, hphase]

/-- A sample of `OSC.NEXT` depends on the registers its rule reads (`41_oscillator.md` R150). -/
theorem oscStep_own_congr (rate : Word) {o₁ o₂ : OscUnit}
    (h : ∀ r, r ∈ [OscReg.note, .tune, .shape, .syncIn, .phase] → readOscReg o₁ r = readOscReg o₂ r) :
    oscStep rate o₁.note (decodeSync o₁.syncIn) o₁ =
      oscWithInputs o₁ (oscStep rate o₂.note (decodeSync o₂.syncIn) o₂) := by
  have hnote : o₁.note = o₂.note := zext16_injective (h .note (by decide))
  have htune : o₁.tune = o₂.tune := zext16_injective (h .tune (by decide))
  have hshape : o₁.shape = o₂.shape := zext16_injective (h .shape (by decide))
  have hsync : o₁.syncIn = o₂.syncIn := setWidth_injective (by decide) (h .syncIn (by decide))
  have hphase : o₁.phase = o₂.phase := h .phase (by decide)
  rw [← hnote, ← hsync]
  exact oscStep_congr rate _ _ htune hshape hphase

theorem oscSample_syncOut_congr (rate : Word) (note : Note) (sync : OscSync) {o₁ o₂ : OscUnit}
    (htune : o₁.tune = o₂.tune) (hshape : o₁.shape = o₂.shape) (hphase : o₁.phase = o₂.phase) :
    (oscSample rate note sync o₁).2 = (oscSample rate note sync o₂).2 := by
  simp only [oscSample, htune, hshape, hphase]

theorem filtStep_congr (rate : Word) {f₁ f₂ : FiltUnit}
    (h : ∀ r, r ∈ [FiltReg.input, .cutoff, .res, .zLow, .zBand] → readFiltReg f₁ r = readFiltReg f₂ r) :
    filtStep (filtCoeffs rate (u16 f₁.cutoff) (u16 f₁.res)) f₁ =
      filtWithInputs f₁ (filtStep (filtCoeffs rate (u16 f₂.cutoff) (u16 f₂.res)) f₂) := by
  have hin : f₁.input = f₂.input := zext16_injective (h .input (by decide))
  have hcutoff : f₁.cutoff = f₂.cutoff := zext16_injective (h .cutoff (by decide))
  have hres : f₁.res = f₂.res := zext16_injective (h .res (by decide))
  have hlow : f₁.zLow = f₂.zLow := h .zLow (by decide)
  have hband : f₁.zBand = f₂.zBand := h .zBand (by decide)
  simp only [filtStep, filtWithInputs, hin, hcutoff, hres, hlow, hband]

/-- An envelope's sample depends on every register but its output. -/
theorem envStep_congr (rate : Word) {e₁ e₂ : EnvUnit}
    (h : ∀ r, r ∈ [EnvReg.gate, .attack, .decay, .sustain, .release, .state, .last, .spPrev] →
      readEnvReg e₁ r = readEnvReg e₂ r) : envStep rate e₁ = envWithInputs e₁ (envStep rate e₂) := by
  have hgate : e₁.gate = e₂.gate := zext16_injective (h .gate (by decide))
  have hattack : e₁.attack = e₂.attack := zext16_injective (h .attack (by decide))
  have hdecay : e₁.decay = e₂.decay := zext16_injective (h .decay (by decide))
  have hsustain : e₁.sustain = e₂.sustain := zext16_injective (h .sustain (by decide))
  have hrelease : e₁.release = e₂.release := zext16_injective (h .release (by decide))
  have hstate : e₁.state = e₂.state := envStateCode_injective (setWidth_injective (by decide) (h .state (by decide)))
  have hlast : e₁.last = e₂.last := h .last (by decide)
  have hprev : e₁.spPrev = e₂.spPrev := h .spPrev (by decide)
  have hrise (st : EnvState) : envRise st e₁ = envRise st e₂ := by
    simp only [envRise, hattack, hdecay, hrelease]
  simp only [envStep, envWithInputs, hgate, hattack, hdecay, hsustain, hrelease, hstate, hlast, hprev, hrise]

theorem lfoStep_congr (rate : Word) {l₁ l₂ : LfoUnit}
    (h : ∀ r, r ∈ [LfoReg.gate, .freq, .depth, .options, .phase, .prevGate, .rand0, .rand1, .prngLo, .prngHi] →
      readLfoReg l₁ r = readLfoReg l₂ r) : lfoStep rate l₁ = lfoWithInputs l₁ (lfoStep rate l₂) := by
  have hgate : l₁.gate = l₂.gate := zext16_injective (h .gate (by decide))
  have hfreq : l₁.freq = l₂.freq := zext16_injective (h .freq (by decide))
  have hdepth : l₁.depth = l₂.depth := zext16_injective (h .depth (by decide))
  have hoptions : l₁.options = l₂.options := zext16_injective (h .options (by decide))
  have hphase : l₁.phase = l₂.phase := h .phase (by decide)
  have hprevGate : l₁.prevGate = l₂.prevGate :=
    BitVec.ofBool_eq_iff_eq.1 (setWidth_injective (by decide) (h .prevGate (by decide)))
  have hrand0 : l₁.rand0 = l₂.rand0 := zext16_injective (h .rand0 (by decide))
  have hrand1 : l₁.rand1 = l₂.rand1 := zext16_injective (h .rand1 (by decide))
  have hprngLo : l₁.prngLo = l₂.prngLo := h .prngLo (by decide)
  have hprngHi : l₁.prngHi = l₂.prngHi := h .prngHi (by decide)
  have hgateNow : lfoGateNow l₁ = lfoGateNow l₂ := by simp only [lfoGateNow, hgate]
  have hstart : lfoStartPhase l₁ = lfoStartPhase l₂ := by
    simp only [lfoStartPhase, hoptions, hgateNow, hprevGate, hphase]
  have hout (phase : Int) : lfoOutput phase l₁ = lfoOutput phase l₂ := by
    simp only [lfoOutput, hoptions, hrand0, hrand1, hdepth]
  simp only [lfoStep, lfoAdvance, setPrng, lfoPrng, hgateNow, hstart, hout, hgate, hfreq, hdepth, hoptions, hrand0,
    hrand1, hprngLo, hprngHi]
  split <;> simp only [lfoWithInputs, hgate, hfreq, hdepth, hoptions]

theorem lfoConstruct_congr {l₁ l₂ : LfoUnit} (hlo : l₁.seedLo = l₂.seedLo) (hhi : l₁.seedHi = l₂.seedHi) :
    lfoConstruct l₁ = lfoWithInputs l₁ (lfoConstruct l₂) := by
  simp only [lfoConstruct, lfoSeedOf, setPrng, lfoWithInputs, hlo, hhi]

theorem oscDefault_congr (o₁ o₂ : OscUnit) : oscDefault o₁ = oscWithInputs o₁ (oscDefault o₂) := rfl

theorem filtDefault_congr (f₁ f₂ : FiltUnit) : filtDefault f₁ = filtWithInputs f₁ (filtDefault f₂) := rfl

theorem envDefault_congr (e₁ e₂ : EnvUnit) : envDefault e₁ = envWithInputs e₁ (envDefault e₂) := rfl

/-! ### Two states that agree on what is read -/

/-- A register of the replaced oscillator, where the two new ones differ in inputs only. -/
theorem readReg_setOsc_agree {s₁ s₂ : State} {v : Fin 2} {x y i : OscUnit} (hxy : x = oscWithInputs i y) {r : OscReg}
    (hr : r ∈ oscWritten) : readReg (.osc v r) (setOsc v x s₁) = readReg (.osc v r) (setOsc v y s₂) := by
  simp only [readReg, getOsc_setOsc_same, hxy, readOscReg_oscWithInputs i y hr]

theorem readReg_setFilt_agree {s₁ s₂ : State} {x y i : FiltUnit} (hxy : x = filtWithInputs i y) {r : FiltReg}
    (hr : r ∈ filtWritten) : readReg (.filt r) (setFilt x s₁) = readReg (.filt r) (setFilt y s₂) := by
  subst hxy
  exact readFiltReg_filtWithInputs i y hr

theorem readReg_setEnv_agree {s₁ s₂ : State} {v : Fin 4} {x y i : EnvUnit} (hxy : x = envWithInputs i y) {r : EnvReg}
    (hr : r ∈ envWritten) : readReg (.env v r) (setEnv v x s₁) = readReg (.env v r) (setEnv v y s₂) := by
  simp only [readReg, getEnv_setEnv_same, hxy, readEnvReg_envWithInputs i y hr]

theorem readReg_setLfo_agree {s₁ s₂ : State} {v : Fin 2} {x y i : LfoUnit} (hxy : x = lfoWithInputs i y) {r : LfoReg}
    (hr : r ∈ lfoWritten) : readReg (.lfo v r) (setLfo v x s₁) = readReg (.lfo v r) (setLfo v y s₂) := by
  simp only [readReg, getLfo_setLfo_same, hxy, readLfoReg_lfoWithInputs i y hr]

theorem reads_mathArg_of_math {i : Instr} (hi : i ∈ mathCommands) : Reads i .mathArg := by
  simp only [mathCommands, List.mem_cons, List.not_mem_nil, or_false] at hi
  obtain rfl | rfl | rfl | rfl | rfl | rfl | rfl := hi <;> exact rfl

/-- Both oscillators of `OSC.PAIR` see the same sync input in the two states, oscillator 1 by way of oscillator 0. -/
theorem oscPairOn_agree (sync : Bool) {s₁ s₂ : State} (h : ∀ r, Reads (.oscPair sync) r → readReg r s₁ = readReg r s₂)
    (v : Fin 2) {r : OscReg} (hr : r ∈ oscWritten) :
    readReg (.osc v r) (oscPairOn sync s₁) = readReg (.osc v r) (oscPairOn sync s₂) := by
  have hrate : s₁.ctxRate = s₂.ctxRate := h .ctxRate trivial
  have h₀ (r) (hr : r ∈ [OscReg.note, .tune, .shape, .phase]) : readOscReg s₁.osc0 r = readOscReg s₂.osc0 r :=
    h (.osc 0 r) hr
  have h₁ (r) (hr : r ∈ [OscReg.tune, .shape, .phase]) : readOscReg s₁.osc1 r = readOscReg s₂.osc1 r := h (.osc 1 r) hr
  have hnote : s₁.osc0.note = s₂.osc0.note := zext16_injective (h₀ .note (by decide))
  have htune₀ : s₁.osc0.tune = s₂.osc0.tune := zext16_injective (h₀ .tune (by decide))
  have hshape₀ : s₁.osc0.shape = s₂.osc0.shape := zext16_injective (h₀ .shape (by decide))
  have hphase₀ : s₁.osc0.phase = s₂.osc0.phase := h₀ .phase (by decide)
  have htune₁ : s₁.osc1.tune = s₂.osc1.tune := zext16_injective (h₁ .tune (by decide))
  have hshape₁ : s₁.osc1.shape = s₂.osc1.shape := zext16_injective (h₁ .shape (by decide))
  have hphase₁ : s₁.osc1.phase = s₂.osc1.phase := h₁ .phase (by decide)
  have hsync : pairSyncIn1 sync s₁ = pairSyncIn1 sync s₂ := by
    rw [pairSyncIn1, pairSyncIn1, hrate, hnote, oscSample_syncOut_congr _ _ _ htune₀ hshape₀ hphase₀]
  have hother (x : OscUnit) (s : State) : readReg (.osc 0 r) (setOsc 1 x s) = readReg (.osc 0 r) s :=
    readReg_setOsc (by simp)
  rw [oscPairOn_eq, oscPairOn_eq, hrate, hnote, hsync]
  match v with
  | 0 =>
    rw [hother, hother]
    exact readReg_setOsc_agree (oscStep_congr _ _ _ htune₀ hshape₀ hphase₀) hr
  | 1 => exact readReg_setOsc_agree (oscStep_congr _ _ _ htune₁ hshape₁ hphase₁) hr

/-- A command that executes writes the same words in two states that agree on what its rule reads. -/
theorem acts_agree {i : Instr} {f : State → State} (hf : Acts i f) {s₁ s₂ : State}
    (h : ∀ r, Reads i r → readReg r s₁ = readReg r s₂) {r : Reg} (hw : Writes i r) :
    readReg r (f s₁) = readReg r (f s₂) := by
  cases hf with
  | nop => exact hw.elim
  | math hi res exp =>
    have harg : s₁.mathArg = s₂.mathArg := h .mathArg (reads_mathArg_of_math hi)
    obtain rfl | rfl := (writes_of_math hi r).1 hw <;> simp only [readReg, mathResult_mathRes, mathResult_mathExp, harg]
  | @oscNext u hu =>
    cases r with
    | osc v r =>
      obtain ⟨hv, hr⟩ := hw
      obtain rfl : v = ⟨u.toNat, hu⟩ := Fin.ext hv
      have hrate : s₁.ctxRate = s₂.ctxRate := h .ctxRate trivial
      rw [oscNextOn, oscNextOn, hrate]
      exact readReg_setOsc_agree (oscStep_own_congr _ fun r hr => h (.osc _ r) ⟨rfl, hr⟩) hr
    | _ => exact hw.elim
  | oscPair sync =>
    cases r with
    | osc v r => exact oscPairOn_agree sync h v hw
    | _ => exact hw.elim
  | @oscRst u hu =>
    cases r with
    | osc v r =>
      obtain ⟨hv, hr⟩ := hw
      obtain rfl : v = ⟨u.toNat, hu⟩ := Fin.ext hv
      exact readReg_setOsc_agree (oscDefault_congr _ _) hr
    | _ => exact hw.elim
  | filtNext =>
    cases r with
    | filt r =>
      have hrate : s₁.ctxRate = s₂.ctxRate := h .ctxRate trivial
      rw [filtNextOn_eq, filtNextOn_eq, hrate]
      exact readReg_setFilt_agree (filtStep_congr _ fun r hr => h (.filt r) hr) hw
    | _ => exact hw.elim
  | filtRst =>
    cases r with
    | filt r => exact readReg_setFilt_agree (filtDefault_congr _ _) hw
    | _ => exact hw.elim
  | @envNext u hu =>
    cases r with
    | env v r =>
      obtain ⟨hv, hr⟩ := hw
      obtain rfl : v = ⟨u.toNat, hu⟩ := Fin.ext hv
      have hrate : s₁.ctxRate = s₂.ctxRate := h .ctxRate trivial
      rw [envNextOn, envNextOn, hrate]
      exact readReg_setEnv_agree (envStep_congr _ fun r hr => h (.env _ r) ⟨rfl, hr⟩) hr
    | _ => exact hw.elim
  | @envRst u hu =>
    cases r with
    | env v r =>
      obtain ⟨hv, hr⟩ := hw
      obtain rfl : v = ⟨u.toNat, hu⟩ := Fin.ext hv
      exact readReg_setEnv_agree (envDefault_congr _ _) hr
    | _ => exact hw.elim
  | @lfoNext u hu =>
    cases r with
    | lfo v r =>
      obtain ⟨hv, hr⟩ := hw
      obtain rfl : v = ⟨u.toNat, hu⟩ := Fin.ext hv
      have hrate : s₁.ctxRate = s₂.ctxRate := h .ctxRate trivial
      rw [lfoNextOn, lfoNextOn, hrate]
      exact readReg_setLfo_agree (lfoStep_congr _ fun r hr => h (.lfo _ r) ⟨rfl, hr⟩) hr
    | _ => exact hw.elim
  | @lfoSeed u hu =>
    cases r with
    | lfo v r =>
      obtain ⟨hv, hr⟩ := hw
      obtain rfl : v = ⟨u.toNat, hu⟩ := Fin.ext hv
      exact readReg_setLfo_agree (lfoConstruct_congr (h (.lfo _ .seedLo) ⟨rfl, by decide⟩)
        (h (.lfo _ .seedHi) ⟨rfl, by decide⟩)) hr
    | _ => exact hw.elim

/-- Settles O21: the command executes in both states, by the same function. -/
theorem resultsDependOnlyOnTheRegistersRead : Obligations.ResultsDependOnlyOnTheRegistersRead := by
  intro i s₁ s₂ hw hctx hreads
  have hno₁ : ¬ExecReports i s₁ := not_execReports hw fun hn => (hctx hn).1
  have hno₂ : ¬ExecReports i s₂ := not_execReports hw fun hn => (hctx hn).2
  obtain hreports | ⟨f, hf, hperforms⟩ := reportsOrActs i
  · obtain ⟨hrep, -⟩ := hreports s₁
    exact absurd hrep hno₁
  · exact ⟨f s₁, f s₂, hperforms.exec_eq hno₁, hperforms.exec_eq hno₂, fun r hr => acts_agree hf hreads hr⟩

end Sys2Proof.Proofs
end

section
/-! SUPPORT. What a host write and a host read do: O7 (`20_memory.md` R61). The storing of a word in an `RW` register is
said once per unit: what the register then reads, and that the others read as before. -/

namespace Sys2Proof.Proofs

open Sys2Proof.Machine Sys2Proof.Claims

/-! ### What a stored word reads as -/

/-- The low `w` bits of a word, read with zeros above. -/
theorem toNat_setWidth_setWidth {w : Nat} (d : Word) (h : w ≤ 32) :
    ((d.setWidth w).setWidth 32).toNat = d.toNat % 2 ^ w := by
  rw [BitVec.toNat_setWidth_of_le h, BitVec.toNat_setWidth]

theorem toNat_zext16_setWidth (d : Word) : (zext16 (d.setWidth 16)).toNat = d.toNat % 2 ^ 16 :=
  toNat_setWidth_setWidth d (by decide)

theorem readOscReg_writeOscReg_same {r : OscReg} (u : Fin 2) (h : (Reg.osc u r).access = .rw) (d : Word) (o : OscUnit) :
    (readOscReg (writeOscReg r d o) r).toNat = d.toNat % 2 ^ (Reg.osc u r).width := by
  cases r with
  | note | tune | shape => exact toNat_zext16_setWidth d
  | syncIn => exact toNat_setWidth_setWidth d (by decide)
  | _ => cases h

theorem readFiltReg_writeFiltReg_same {r : FiltReg} (h : (Reg.filt r).access = .rw) (d : Word) (f : FiltUnit) :
    (readFiltReg (writeFiltReg r d f) r).toNat = d.toNat % 2 ^ (Reg.filt r).width := by
  cases r with
  | input | cutoff | res => exact toNat_zext16_setWidth d
  | _ => cases h

theorem readEnvReg_writeEnvReg_same {r : EnvReg} (e : Fin 4) (h : (Reg.env e r).access = .rw) (d : Word) (x : EnvUnit) :
    (readEnvReg (writeEnvReg r d x) r).toNat = d.toNat % 2 ^ (Reg.env e r).width := by
  cases r with
  | gate | attack | decay | sustain | release => exact toNat_zext16_setWidth d
  | _ => cases h

theorem readLfoReg_writeLfoReg_same {r : LfoReg} (l : Fin 2) (h : (Reg.lfo l r).access = .rw) (d : Word) (x : LfoUnit) :
    (readLfoReg (writeLfoReg r d x) r).toNat = d.toNat % 2 ^ (Reg.lfo l r).width := by
  cases r with
  | gate | freq | depth | options => exact toNat_zext16_setWidth d
  | seedLo | seedHi => exact (BitVec.toNat_mod_cancel d).symm
  | _ => cases h

/-- A write stores the low *w* bits in the register it names (`10_state.md` R28). -/
theorem readReg_writeReg_same {r : Reg} (h : r.access = .rw) (d : Word) (s : State) :
    (readReg r (writeReg r d s)).toNat = d.toNat % 2 ^ r.width := by
  cases r with
  | mathArg => exact (BitVec.toNat_mod_cancel d).symm
  | osc u r =>
    rw [readReg, writeReg, getOsc_setOsc_same]
    exact readOscReg_writeOscReg_same u h d _
  | filt r => exact readFiltReg_writeFiltReg_same h d s.filt
  | env e r =>
    rw [readReg, writeReg, getEnv_setEnv_same]
    exact readEnvReg_writeEnvReg_same e h d _
  | lfo l r =>
    rw [readReg, writeReg, getLfo_setLfo_same]
    exact readLfoReg_writeLfoReg_same l h d _
  | _ => cases h

/-! ### What a stored word leaves unchanged

A write to a read-only register of a unit keeps the unit; a write to another replaces the one field, which no other
register reads. -/

theorem readOscReg_writeOscReg_other {r r' : OscReg} (h : r' ≠ r) (d : Word) (o : OscUnit) :
    readOscReg (writeOscReg r d o) r' = readOscReg o r' := by
  cases r with
  | note | tune | shape | syncIn => cases r' <;> simp_all [writeOscReg, readOscReg]
  | _ => rfl

theorem readFiltReg_writeFiltReg_other {r r' : FiltReg} (h : r' ≠ r) (d : Word) (f : FiltUnit) :
    readFiltReg (writeFiltReg r d f) r' = readFiltReg f r' := by
  cases r with
  | input | cutoff | res => cases r' <;> simp_all [writeFiltReg, readFiltReg]
  | _ => rfl

theorem readEnvReg_writeEnvReg_other {r r' : EnvReg} (h : r' ≠ r) (d : Word) (x : EnvUnit) :
    readEnvReg (writeEnvReg r d x) r' = readEnvReg x r' := by
  cases r with
  | gate | attack | decay | sustain | release => cases r' <;> simp_all [writeEnvReg, readEnvReg]
  | _ => rfl

theorem readLfoReg_writeLfoReg_other {r r' : LfoReg} (h : r' ≠ r) (d : Word) (x : LfoUnit) :
    readLfoReg (writeLfoReg r d x) r' = readLfoReg x r' := by
  cases r with
  | gate | freq | depth | options | seedLo | seedHi => cases r' <;> simp_all [writeLfoReg, readLfoReg]
  | _ => rfl

/-- A write changes no register but the one it names. -/
theorem readReg_writeReg_other {r r' : Reg} (h : r' ≠ r) (d : Word) (s : State) :
    readReg r' (writeReg r d s) = readReg r' s := by
  cases r with
  | mathArg =>
    cases r' with
    | mathArg => exact absurd rfl h
    | _ => rfl
  | osc u r =>
    refine readReg_setOsc fun q hq => readOscReg_writeOscReg_other ?_ d _
    rintro rfl
    exact h hq
  | filt r =>
    refine readReg_setFilt fun q hq => readFiltReg_writeFiltReg_other ?_ d _
    rintro rfl
    exact h hq
  | env e r =>
    refine readReg_setEnv fun q hq => readEnvReg_writeEnvReg_other ?_ d _
    rintro rfl
    exact h hq
  | lfo l r =>
    refine readReg_setLfo fun q hq => readLfoReg_writeLfoReg_other ?_ d _
    rintro rfl
    exact h hq
  | _ => rfl

@[simp] theorem writeReg_host (r : Reg) (d : Word) (s : State) : (writeReg r d s).host = s.host := by
  cases r <;> simp [writeReg]

@[simp] theorem writeReg_answers (r : Reg) (d : Word) (s : State) : (writeReg r d s).answers = s.answers := by
  cases r <;> simp [writeReg]

/-! ### The register a number names, and its row in the table -/

/-- A row's number names the row's register, with the row's access (`10_state.md` R27). -/
theorem regAt_of_mem_registerMap {row : Nat × Reg × Access × Nat × Option Nat} (hrow : row ∈ registerMap) {a : RegNum}
    (ha : row.1 = a.toNat) : regAt a = some row.2.1 ∧ row.2.1.access = row.2.2.1 := by
  obtain ⟨htable, -⟩ := registerMapIsTheTable
  obtain ⟨hreg, haccess, -⟩ := htable row hrow
  rw [ha, BitVec.ofNat_toNat, BitVec.setWidth_eq] at hreg
  exact ⟨hreg, haccess⟩

theorem regAt_of_readOnly {a : RegNum} (h : ReadOnly a) : ∃ r, regAt a = some r ∧ r.access = .ro := by
  obtain ⟨row, hrow, ha, hro⟩ := h
  obtain ⟨hreg, haccess⟩ := regAt_of_mem_registerMap hrow ha
  exact ⟨_, hreg, haccess.trans hro⟩

/-- Only `CMD` is write-only. -/
theorem eq_cmdNum_of_access_wo {a : RegNum} {r : Reg} (h : regAt a = some r) (hwo : r.access = .wo) : a = cmdNum := by
  have hnumber : ∀ row ∈ registerMap, row.2.2.1 = .wo → row.1 = cmdNum.toNat := by decide
  obtain ⟨row, hrow, ha⟩ := List.mem_map.1 (mem_registerMap_of_mapped a (by simp [h]))
  obtain ⟨hreg, haccess⟩ := regAt_of_mem_registerMap hrow ha
  obtain rfl : r = row.2.1 := Option.some.inj (h.symm.trans hreg)
  exact BitVec.eq_of_toNat_eq (ha.symm.trans (hnumber row hrow (haccess.symm.trans hwo)))

/-! ### A recorded error by the numbers of the spec -/

/-- What `report` does to `STATUS` and `ERRINFO`, bit by bit (`60_exceptions.md` R242). -/
theorem recorded_report (e : ErrCause) (info : Word) (s : State) :
    Recorded (causeCode e).toNat (causeBit e) info s (report e info s) := by
  refine ⟨fun k hk => ?_, rfl⟩
  have hfield : (4 ≤ k ∧ k < 8) ↔ (4 ≤ k ∧ k ≤ 7) := by omega
  simp only [report_status, getLsbD_recordCause e s.status k hk, hfield, BitVec.testBit_toNat]

theorem stepRecords_of_step_eq {before s : State} {e : ErrCause} {info : Word}
    (h : step before = .next (report e info s)) :
    StepRecords (causeCode e).toNat (causeBit e) info before s :=
  ⟨_, h, recorded_report e info s⟩

/-- The page bit of a refused write's information word is above the register number. -/
theorem writeInfo_eq (a : RegNum) : writeInfo a = BitVec.ofNat 32 (256 + a.toNat) := by
  have hor : 2 ^ 8 * 1 + a.toNat = 2 ^ 8 * 1 ||| a.toNat := Nat.two_pow_add_eq_or_of_lt a.isLt 1
  have hlt : 256 + a.toNat < 2 ^ 32 := by have := a.isLt; omega
  refine BitVec.eq_of_toNat_eq ?_
  rw [writeInfo, BitVec.toNat_or, BitVec.toNat_setWidth_of_le (by decide), BitVec.toNat_ofNat, BitVec.toNat_ofNat,
    Nat.mod_eq_of_lt hlt]
  exact hor.symm

theorem readInfo_eq (a : RegNum) : readInfo a = BitVec.ofNat 32 a.toNat := (BitVec.ofNat_toNat 32 a).symm

/-! ### The transactions -/

theorem hostWrite_of_unmapped {a : RegNum} (h : regAt a = none) (d : Word) (s : State) :
    hostWrite a d s = .next (report .addr (writeInfo a) s) := by
  simp [hostWrite, h]

theorem hostWrite_of_ro {a : RegNum} {r : Reg} (h : regAt a = some r) (hro : r.access = .ro) (d : Word) (s : State) :
    hostWrite a d s = .next (report .addr (writeInfo a) s) := by
  simp [hostWrite, h, hro]

theorem hostWrite_of_rw {a : RegNum} {r : Reg} (h : regAt a = some r) (hrw : r.access = .rw) (d : Word) (s : State) :
    hostWrite a d s = .next (writeReg r d s) := by
  simp [hostWrite, h, hrw]

/-- A write the host may not make is refused (`60_exceptions.md` R241 row 5). -/
theorem hostWrite_refused {a : RegNum} (h : Unmapped a ∨ ReadOnly a) (d : Word) (s : State) :
    hostWrite a d s = .next (report .addr (writeInfo a) s) := by
  obtain hun | hro := h
  · exact hostWrite_of_unmapped ((regAt_eq_none_iff a).2 hun) d s
  · obtain ⟨r, hr, haccess⟩ := regAt_of_readOnly hro
    exact hostWrite_of_ro hr haccess d s

/-- A read the host may not make is refused and answered with 0; the two commute. -/
theorem hostRead_refused {a : RegNum} (h : Unmapped a ∨ a = cmdNum) (s : State) :
    hostRead a s = report .addr (readInfo a) (answer 0 s) := by
  obtain hun | rfl := h
  · rw [hostRead, (regAt_eq_none_iff a).2 hun]
    rfl
  · rfl

theorem hostRead_of_mapped {a : RegNum} {r : Reg} (h : regAt a = some r) (ha : a ≠ cmdNum) (s : State) :
    hostRead a s = answer (readReg r s) s := by
  have hwo : r.access ≠ .wo := fun hwo => ha (eq_cmdNum_of_access_wo h hwo)
  simp [hostRead, h, hwo]

theorem step_of_wr {s : State} {a : RegNum} {d : Word} {rest : List HostEvent} (h : s.host = .wr a d :: rest) :
    step s = hostWrite a d { s with host := rest } := step_of_cons s _ rest h

theorem step_of_rd {s : State} {a : RegNum} {rest : List HostEvent} (h : s.host = .rd a :: rest) :
    step s = .next (hostRead a { s with host := rest }) := step_of_cons s _ rest h

theorem stepRecords_of_refused_write {s : State} {a : RegNum} {d : Word} {rest : List HostEvent}
    (hs : s.host = .wr a d :: rest) (h : Unmapped a ∨ ReadOnly a) :
    StepRecords 5 12 (BitVec.ofNat 32 (256 + a.toNat)) s { s with host := rest } := by
  rw [← writeInfo_eq]
  exact stepRecords_of_step_eq (e := .addr) ((step_of_wr hs).trans (hostWrite_refused h d _))

theorem stepRecords_of_refused_read {s : State} {a : RegNum} {rest : List HostEvent}
    (hs : s.host = .rd a :: rest) (h : Unmapped a ∨ a = cmdNum) :
    StepRecords 5 12 (BitVec.ofNat 32 a.toNat) s { s with host := rest, answers := s.answers ++ [0] } := by
  rw [← readInfo_eq]
  exact stepRecords_of_step_eq (e := .addr) ((step_of_rd hs).trans (congrArg _ (hostRead_refused h _)))

/-- A write to an `RW` register stores its low *w* bits and does nothing else. -/
theorem step_stores {s : State} {a : RegNum} {d : Word} {rest : List HostEvent} (hs : s.host = .wr a d :: rest)
    {r : Reg} (hr : regAt a = some r) (hrw : r.access = .rw) :
    ∃ t, step s = .next t ∧ (readReg r t).toNat = d.toNat % 2 ^ r.width ∧
      (∀ r', r' ≠ r → readReg r' t = readReg r' s) ∧ t.host = rest ∧ t.answers = s.answers :=
  ⟨writeReg r d { s with host := rest }, (step_of_wr hs).trans (hostWrite_of_rw hr hrw d _),
    readReg_writeReg_same hrw d _, fun _ hne => readReg_writeReg_other hne d _, writeReg_host r d _,
    writeReg_answers r d _⟩

/-- Settles O7: the write and the read, by what the number names. -/
theorem hostTransactions : Obligations.HostTransactions := by
  refine ⟨fun s a d rest hs => ⟨stepRecords_of_refused_write hs, ?_, ?_, fun r => step_stores hs⟩,
    fun s a rest hs => ⟨stepRecords_of_refused_read hs, fun r hr ha => ?_⟩⟩
  · rintro rfl
    exact step_of_wr hs
  · rintro rfl
    exact step_of_wr hs
  · exact (step_of_rd hs).trans (congrArg _ (hostRead_of_mapped hr ha _))

end Sys2Proof.Proofs
end

section
/-! The sine table read by `SINPI`: O27 (`40_math.md` R121, `21_rom_tables.md` R80). -/

namespace Sys2Proof.Proofs

open Sys2Proof.Machine Sys2Proof.Claims

/-- A check of a table, counted in two digits: `decide` then recurses only as deep as a digit. -/
theorem forall_lt_of_digits {P : Nat → Prop} (m n : Nat) (h : ∀ a < m, ∀ b < n, P (n * a + b)) : ∀ k < m * n, P k := by
  intro k hk
  have hn : 0 < n := Nat.pos_of_ne_zero fun h0 => by simp [h0] at hk
  have hdigits := h (k / n) (Nat.div_lt_of_lt_mul (by rwa [Nat.mul_comm] at hk)) (k % n) (Nat.mod_lt k hn)
  rwa [Nat.div_add_mod] at hdigits

/-- A full turn later the argument has the same position in the table. -/
theorem sinpi_add_turn (x : Int) : sinpi (x + 2 ^ 29) = sinpi x := by
  have hu : (x + 2 ^ 29 + 2 ^ 28) % 2 ^ 29 = (x + 2 ^ 28) % 2 ^ 29 := by omega
  simp only [sinpi, hu]

/-- At a table point nothing is interpolated. -/
theorem sinpi_tablePoint (n : Int) : sinpi (n * 2 ^ 21) = sinTab ((n + 128) % 256) := by
  have hu : (n * 2 ^ 21 + 2 ^ 28) % 2 ^ 29 = (n + 128) % 256 * 2 ^ 21 := by omega
  have hi : asr ((n + 128) % 256 * 2 ^ 21) 21 = (n + 128) % 256 := asr_shl _ 21
  have hf : (n + 128) % 256 * 2 ^ 21 % 2 ^ 21 = 0 := Int.mul_emod_left _ _
  simp only [sinpi, hu, hi, hf, Int.mul_zero, asr_zero, Int.add_zero]

/-- `21_rom_tables.md` R80: the table is odd about index 128, and its two ends are both 0. -/
theorem sinTab_odd : ∀ k < 256, sinTab (((256 - k) % 256 : Nat) : Int) = -sinTab (k : Int) :=
  forall_lt_of_digits 16 16 (by decide)

/-- Settles O27. -/
theorem sineIsPeriodicAndOddAtTablePoints : Obligations.SineIsPeriodicAndOddAtTablePoints := by
  refine ⟨sinpi_add_turn, fun n => ?_⟩
  obtain ⟨k, hk⟩ := Int.eq_ofNat_of_zero_le (Int.emod_nonneg (n + 128) (by decide : (256 : Int) ≠ 0))
  have hneg : (-n + 128) % 256 = (((256 - k) % 256 : Nat) : Int) := by omega
  rw [← Int.neg_mul, sinpi_tablePoint, sinpi_tablePoint, hneg, hk]
  exact sinTab_odd k (by omega)

end Sys2Proof.Proofs
end

section
/-! The reciprocals are accurate: O54 (`40_math.md` R126 to R129). The core's mantissa times the mantissa it inverts is
bounded on each segment of `RCP_TAB`; the commands only normalise their argument for the core. -/

namespace Sys2Proof.Proofs

open Sys2Proof.Machine Sys2Proof.Claims

/-! ### Words and shifts -/

/-- Reading back a stored unsigned word. -/
theorem toNat_to32 {v : Int} (h₀ : 0 ≤ v) (h₁ : v < 2 ^ 32) : ((to32 v).toNat : Int) = v := by
  rw [to32, BitVec.toNat_ofInt]
  omega

/-- `asr` is the floor. -/
theorem asr_floor (v : Int) (n : Nat) : asr v n * 2 ^ n ≤ v ∧ v < (asr v n + 1) * 2 ^ n := by
  have hp : (0 : Int) < 2 ^ n := by positivity
  exact ⟨Int.ediv_mul_le v hp.ne', Int.lt_ediv_add_one_mul_self v hp⟩

/-- Shifts in a row are one shift. -/
theorem asr_asr (v : Int) (m n : Nat) : asr (asr v m) n = asr v (m + n) := by
  rw [asr, asr, asr, Int.ediv_ediv_of_nonneg (by positivity), pow_add]

/-- `bitlen` of a number with bit `n` as its most significant one. -/
theorem bitlen_bounds {v : Int} (h : 0 < v) : 1 ≤ bitlen v ∧ 2 ^ (bitlen v - 1) ≤ v ∧ v < 2 ^ bitlen v := by
  have hne : v.toNat ≠ 0 := by omega
  have hlo := Nat.log2_self_le hne
  have hhi := Nat.lt_log2_self (n := v.toNat)
  zify at hlo hhi
  rw [Int.toNat_of_nonneg h.le] at hlo hhi
  exact ⟨Nat.le_add_left 1 _, hlo, hhi⟩

/-! ### The products on one segment -/

/-- The products of a reciprocal and its mantissa lie within 4.2·10^−5 of 2^32. -/
abbrev rcpTolerance : Int := 180388

/-- The interpolated reciprocal `m` at step `r` of a segment falling by `d` from `a`, its floor taken. -/
def rcpLerp (a d r : Int) : Int := a + asr (-d * r) 9

theorem rcpLerp_floor (a d r : Int) :
    512 * a - d * r - 511 ≤ 512 * rcpLerp a d r ∧ 512 * rcpLerp a d r ≤ 512 * a - d * r := by
  have h := asr_floor (-d * r) 9
  unfold rcpLerp
  constructor <;> linarith

/-- The lower bound at the table entry and, with the whole floor taken off, at the ends of the steps between entries. -/
abbrev LowerAtEnds (a d x : Int) : Prop :=
  2 ^ 32 - rcpTolerance ≤ a * x ∧
    512 * (2 ^ 32 - rcpTolerance) ≤ (512 * a - d * 1 - 511) * (x + 1) ∧
    512 * (2 ^ 32 - rcpTolerance) ≤ (512 * a - d * 511 - 511) * (x + 511)

/-- Before the floor the product is concave in the step, so it is least at an end. -/
theorem rcpLerp_mul_ge {a d x r : Int} (h : LowerAtEnds a d x) (hd : 0 ≤ d) (hx : 0 ≤ x) (h₀ : 0 ≤ r) (h₁ : r < 512) :
    2 ^ 32 - rcpTolerance ≤ rcpLerp a d r * (x + r) := by
  obtain ⟨hentry, hfirst, hlast⟩ := h
  obtain rfl | hr : r = 0 ∨ 1 ≤ r := by omega
  · simpa [rcpLerp] using hentry
  have hconcave : 512 * (2 ^ 32 - rcpTolerance) ≤ (512 * a - d * r - 511) * (x + r) := by
    have hchord : 0 ≤ d * ((r - 1) * (511 - r)) :=
      Int.mul_nonneg hd (Int.mul_nonneg (by omega) (by omega))
    nlinarith [mul_le_mul_of_nonneg_left hfirst (show 0 ≤ 511 - r by omega),
      mul_le_mul_of_nonneg_left hlast (show 0 ≤ r - 1 by omega)]
  have hfloor := mul_le_mul_of_nonneg_right (rcpLerp_floor a d r).1 (show 0 ≤ x + r by omega)
  linarith

/-- By the inequality of the means the product is greatest where its two factors, scaled alike, are equal. -/
theorem rcpLerp_mul_le {a d x r : Int} (h : (512 * a + d * (x + 1)) ^ 2 ≤ 2048 * d * (2 ^ 32 + rcpTolerance))
    (hd : 0 < d) (hx : 0 ≤ x) (h₀ : 0 ≤ r) : rcpLerp a d r * (x + 1 + r) ≤ 2 ^ 32 + rcpTolerance := by
  have hfloor := mul_le_mul_of_nonneg_right (rcpLerp_floor a d r).2 (show 0 ≤ d * (x + 1 + r) by positivity)
  have hmeans := sq_nonneg (512 * a - d * r - d * (x + 1 + r))
  have hd4 : 0 < 2048 * d := by omega
  refine le_of_mul_le_mul_left ?_ hd4
  linarith

/-! ### The table -/

/-- How far `RCP_TAB` falls from entry `j` to the next. -/
def rcpFall (j : Nat) : Int := rcpTab j - rcpTab ((j : Int) + 1)

/-- The mantissa inverted at entry `j`, times 2^16. -/
def rcpAbscissa (j : Nat) : Int := 65536 + 512 * (j : Int)

theorem rcpm_eq_lerp (j : Nat) {r : Int} (h₀ : 0 ≤ r) (h₁ : r < 512) :
    rcpm (512 * (j : Int) + r) = rcpLerp (rcpTab j) (rcpFall j) r := by
  have hj : asr (512 * (j : Int) + r) 9 = (j : Int) := by unfold asr; omega
  have hr : (512 * (j : Int) + r) % 512 = r := by omega
  simp only [rcpm, rcpLerp, rcpFall, hj, hr, neg_sub]

theorem rcpFall_pos : ∀ j < 128, 0 < rcpFall j := forall_lt_of_digits 8 16 (by decide)

theorem rcpTab_mul_le : ∀ j : Nat, j < 128 →
    (512 * rcpTab j + rcpFall j * (rcpAbscissa j + 1)) ^ 2 ≤ 2048 * rcpFall j * (2 ^ 32 + rcpTolerance) :=
  forall_lt_of_digits 8 16 (by decide)

/-- The ends decide but on two segments, which come closest to the bound. -/
theorem rcpTab_mul_ge : ∀ j : Nat, j < 128 →
    j = 121 ∨ j = 122 ∨ LowerAtEnds (rcpTab j) (rcpFall j) (rcpAbscissa j) :=
  forall_lt_of_digits 8 16 (by decide)

/-- The two closest segments, step by step. -/
theorem rcpLerp_mul_ge_closest : ∀ r < 512,
    2 ^ 32 - rcpTolerance ≤ rcpLerp (rcpTab (121 : Nat)) (rcpFall 121) (r : Nat) * (rcpAbscissa 121 + (r : Nat)) ∧
      2 ^ 32 - rcpTolerance ≤ rcpLerp (rcpTab (122 : Nat)) (rcpFall 122) (r : Nat) * (rcpAbscissa 122 + (r : Nat)) :=
  forall_lt_of_digits 16 32 (by decide)

theorem rcpm_mul_bounds {f : Int} (h₀ : 0 ≤ f) (h₁ : f ≤ 65535) :
    2 ^ 32 - rcpTolerance ≤ rcpm f * (65536 + f) ∧ rcpm f * (65536 + f + 1) ≤ 2 ^ 32 + rcpTolerance := by
  obtain ⟨j, r, hj, hr, rfl⟩ : ∃ j r : Nat, j < 128 ∧ r < 512 ∧ f = 512 * (j : Int) + (r : Int) :=
    ⟨(f / 512).toNat, (f % 512).toNat, by omega, by omega, by omega⟩
  have hr₀ : (0 : Int) ≤ r := Int.natCast_nonneg r
  have hr₁ : (r : Int) < 512 := by exact_mod_cast hr
  have hx : 0 ≤ rcpAbscissa j := by unfold rcpAbscissa; omega
  have hx₀ : 65536 + (512 * (j : Int) + r) = rcpAbscissa j + r := by unfold rcpAbscissa; ring
  rw [rcpm_eq_lerp j hr₀ hr₁, hx₀, add_right_comm]
  refine ⟨?_, rcpLerp_mul_le (rcpTab_mul_le j hj) (rcpFall_pos j hj) hx hr₀⟩
  obtain rfl | rfl | hends := rcpTab_mul_ge j hj
  · exact (rcpLerp_mul_ge_closest r hr).1
  · exact (rcpLerp_mul_ge_closest r hr).2
  · exact rcpLerp_mul_ge hends (rcpFall_pos j hj).le hx hr₀ hr₁

/-- The reciprocal stays accurate for the mantissas that are cut to the same `f`. -/
theorem rcpm_accurate {f : Int} (h₀ : 0 ≤ f) (h₁ : f ≤ 65535) {v : ℚ} (hv₀ : 65536 + (f : ℚ) ≤ v)
    (hv₁ : v ≤ 65536 + (f : ℚ) + 1) : |(rcpm f : ℚ) / 2 ^ 16 * (v / 2 ^ 16) - 1| ≤ 4.2 / 10 ^ 5 := by
  obtain ⟨hlo, hhi⟩ := rcpm_mul_bounds h₀ h₁
  have hm : 0 ≤ rcpm f := by
    by_contra hneg
    nlinarith
  have hm' : (0 : ℚ) ≤ rcpm f := by exact_mod_cast hm
  have hlo' : (2 ^ 32 - 180388 : ℚ) ≤ rcpm f * (65536 + f) := by exact_mod_cast hlo
  have hhi' : (rcpm f : ℚ) * (65536 + f + 1) ≤ 2 ^ 32 + 180388 := by exact_mod_cast hhi
  have hge := mul_le_mul_of_nonneg_left hv₀ hm'
  have hle := mul_le_mul_of_nonneg_left hv₁ hm'
  rw [abs_le]
  constructor <;> linarith

theorem rcpm_range {f : Int} (h₀ : 0 ≤ f) (h₁ : f ≤ 65535) : 0 ≤ rcpm f ∧ rcpm f < 2 ^ 32 := by
  obtain ⟨hlo, hhi⟩ := rcpm_mul_bounds h₀ h₁
  constructor <;> nlinarith

/-! ### The commands -/

/-- The value of a result, mantissa and exponent, as the registers hold it. -/
theorem mathResult_value (s : State) {m e : Int} (hm₀ : 0 ≤ m) (hm₁ : m < 2 ^ 32) (he₀ : -16 ≤ e) (he₁ : e ≤ 16) :
    ((mathResult m e s).mathRes.toNat : ℚ) * (2 : ℚ) ^ ((mathResult m e s).mathExp.toInt - 16) =
      (m : ℚ) / 2 ^ 16 * (2 : ℚ) ^ e := by
  have hres : ((to32 m).toNat : ℚ) = m := by exact_mod_cast toNat_to32 hm₀ hm₁
  have hexp : (to32 e).toInt = e := s32_to32 e (by omega) (by omega)
  show ((to32 m).toNat : ℚ) * (2 : ℚ) ^ ((to32 e).toInt - 16) = _
  rw [hres, hexp, zpow_sub₀ (by norm_num)]
  norm_num
  ring

/-- `RCP1P`: the argument is 2^e times a mantissa from 1 to below 2, which the core inverts. -/
theorem rcp1p_normalises {k : Int} (h₀ : 0 ≤ k) (h₁ : k < 2 ^ 32) : ∃ f : Int, ∃ e : Nat, rcp1p k = (rcpm f, e) ∧
    0 ≤ f ∧ f ≤ 65535 ∧ e ≤ 4 ∧ (65536 + f) * 2 ^ (e + 12) ≤ k + 2 ^ 28 ∧ k + 2 ^ 28 < (65536 + f + 1) * 2 ^ (e + 12) := by
  obtain ⟨hpos, hlo, hhi⟩ := bitlen_bounds (show 0 < k + 2 ^ 28 by omega)
  have hge : 29 ≤ bitlen (k + 2 ^ 28) := by
    by_contra hlt
    have := pow_le_pow_right₀ (show (1 : Int) ≤ 2 by norm_num) (show bitlen (k + 2 ^ 28) ≤ 28 by omega)
    omega
  have hle : bitlen (k + 2 ^ 28) ≤ 33 := by
    by_contra hgt
    have := pow_le_pow_right₀ (show (1 : Int) ≤ 2 by norm_num) (show 33 ≤ bitlen (k + 2 ^ 28) - 1 by omega)
    omega
  obtain ⟨e, he⟩ := Nat.exists_eq_add_of_le hge
  rw [show bitlen (k + 2 ^ 28) - 1 = e + 28 by omega] at hlo
  have hf : asr (asr (k + 2 ^ 28) e - 2 ^ 28) 12 = asr (k + 2 ^ 28) (e + 12) - 65536 := by
    rw [← asr_asr]
    unfold asr
    omega
  have hrange : 65536 ≤ asr (k + 2 ^ 28) (e + 12) ∧ asr (k + 2 ^ 28) (e + 12) ≤ 131071 := by
    refine asr_bounds _ _ _ _ (le_trans (le_of_eq ?_) hlo) (lt_of_lt_of_eq hhi ?_)
    · ring
    · rw [he]; ring
  obtain ⟨hfl, hfr⟩ := asr_floor (k + 2 ^ 28) (e + 12)
  refine ⟨asr (k + 2 ^ 28) (e + 12) - 65536, e, ?_, by omega, by omega, by omega, ?_, ?_⟩
  · simp only [rcp1p, he, Nat.add_sub_cancel_left, hf]
  · rwa [add_sub_cancel]
  · rwa [add_sub_cancel]

/-- `RCP1M`: a positive argument of at most 1.0, shifted up to a mantissa from 1 to below 2, which the core inverts. -/
theorem rcp1m_normalises {x : Int} (h₀ : 0 ≤ x) (h₁ : x < 65536) : ∃ f : Int, ∃ z : Nat, rcp1m x = (rcpm f, z) ∧
    0 ≤ f ∧ f ≤ 65535 ∧ z ≤ 16 ∧ (65536 - x) * 2 ^ z = 65536 + f := by
  obtain ⟨hpos, hlo, hhi⟩ := bitlen_bounds (show 0 < 65536 - x by omega)
  have hle : bitlen (65536 - x) ≤ 17 := by
    by_contra hgt
    have := pow_le_pow_right₀ (show (1 : Int) ≤ 2 by norm_num) (show 17 ≤ bitlen (65536 - x) - 1 by omega)
    omega
  have hscale : ∀ b z : Nat, b + z = 16 → (2 : Int) ^ b * 2 ^ z = 65536 := fun b z hz => by rw [← pow_add, hz]; norm_num
  have hbelow := hscale (bitlen (65536 - x) - 1) (17 - bitlen (65536 - x)) (by omega)
  have htwice : (2 : Int) ^ bitlen (65536 - x) = 2 ^ (bitlen (65536 - x) - 1) * 2 := by
    rw [← pow_succ, Nat.sub_add_cancel hpos]
  have hz : (0 : Int) < 2 ^ (17 - bitlen (65536 - x)) := by positivity
  have hge := mul_le_mul_of_nonneg_right hlo hz.le
  have hlt := mul_lt_mul_of_pos_right hhi hz
  rw [htwice] at hlt
  refine ⟨(65536 - x) * 2 ^ (17 - bitlen (65536 - x)) - 65536, 17 - bitlen (65536 - x), rfl, ?_, ?_, by omega, by ring⟩
  · linarith
  · have : (65536 - x) * 2 ^ (17 - bitlen (65536 - x)) < 131072 := by linarith
    omega

/-- The result of a command that brings `c` to the mantissa `c · 2^e`, from 1 to below 2, and inverts it. -/
theorem mathResult_rcpm_accurate (s : State) {f e : Int} {c : ℚ} (h₀ : 0 ≤ f) (h₁ : f ≤ 65535) (he₀ : -16 ≤ e)
    (he₁ : e ≤ 16) (hc₀ : 65536 + (f : ℚ) ≤ c * 2 ^ e * 2 ^ 16) (hc₁ : c * 2 ^ e * 2 ^ 16 ≤ 65536 + (f : ℚ) + 1) :
    |((mathResult (rcpm f) e s).mathRes.toNat : ℚ) * (2 : ℚ) ^ ((mathResult (rcpm f) e s).mathExp.toInt - 16) * c - 1| ≤
      4.2 / 10 ^ 5 := by
  obtain ⟨hm₀, hm₁⟩ := rcpm_range h₀ h₁
  have hcore := rcpm_accurate h₀ h₁ hc₀ hc₁
  rw [mathResult_value s hm₀ hm₁ he₀ he₁]
  convert hcore using 3
  ring

theorem exec_rcp1p (s : State) :
    exec .rcp1p s = .next (mathResult (rcp1p (u32 s.mathArg)).1 (-((rcp1p (u32 s.mathArg)).2 : Int)) s) := rfl

theorem exec_rcp1m (s : State) :
    exec .rcp1m s = .next (mathResult (rcp1m (mathArgLow s)).1 ((rcp1m (mathArgLow s)).2 : Int) s) := rfl

theorem mathArgLow_eq (s : State) : mathArgLow s = (s.mathArg.toNat % 2 ^ 16 : Nat) := by
  simp [mathArgLow, u16, BitVec.extractLsb'_toNat]

theorem exec_rcp1p_accurate (s : State) : ∃ t, exec .rcp1p s = .next t ∧
    |(t.mathRes.toNat : ℚ) * (2 : ℚ) ^ (t.mathExp.toInt - 16) * (1 + (s.mathArg.toNat : ℚ) / 2 ^ 28) - 1| ≤
      4.2 / 10 ^ 5 := by
  obtain ⟨hk₀, hk₁⟩ := u32_bounds s.mathArg
  obtain ⟨f, e, hcmd, hf₀, hf₁, he, hlo, hhi⟩ := rcp1p_normalises hk₀ (by omega)
  have hc : (1 + (s.mathArg.toNat : ℚ) / 2 ^ 28) * 2 ^ (-(e : Int)) * 2 ^ 16 =
      (s.mathArg.toNat + 2 ^ 28) / 2 ^ (e + 12) := by
    rw [zpow_neg, zpow_natCast, pow_add]
    field_simp
    ring
  have hlo' : (65536 + (f : ℚ)) * 2 ^ (e + 12) ≤ s.mathArg.toNat + 2 ^ 28 := by exact_mod_cast hlo
  have hhi' : (s.mathArg.toNat : ℚ) + 2 ^ 28 ≤ (65536 + (f : ℚ) + 1) * 2 ^ (e + 12) := by exact_mod_cast hhi.le
  refine ⟨_, by rw [exec_rcp1p, hcmd], mathResult_rcpm_accurate s hf₀ hf₁ (by omega) (by omega) ?_ ?_⟩
  · rw [hc, le_div_iff₀ (by positivity)]
    exact hlo'
  · rw [hc, div_le_iff₀ (by positivity)]
    exact hhi'

theorem exec_rcp1m_accurate (s : State) : ∃ t, exec .rcp1m s = .next t ∧
    |(t.mathRes.toNat : ℚ) * (2 : ℚ) ^ (t.mathExp.toInt - 16) *
      (1 - ((s.mathArg.toNat % 2 ^ 16 : Nat) : ℚ) / 2 ^ 16) - 1| ≤ 4.2 / 10 ^ 5 := by
  rw [exec_rcp1m, mathArgLow_eq]
  obtain ⟨x, hx⟩ : ∃ x, x = s.mathArg.toNat % 2 ^ 16 := ⟨_, rfl⟩
  rw [← hx]
  obtain ⟨f, z, hcmd, hf₀, hf₁, hz, hv⟩ := rcp1m_normalises (Int.natCast_nonneg x) (by omega)
  have hc : (1 - (x : ℚ) / 2 ^ 16) * 2 ^ (z : Int) * 2 ^ 16 = 65536 + (f : ℚ) := by
    have hv' := congrArg (Int.cast : ℤ → ℚ) hv
    push_cast at hv'
    rw [← hv', zpow_natCast]
    ring
  exact ⟨_, by rw [hcmd], mathResult_rcpm_accurate s hf₀ hf₁ (by omega) (by omega) hc.ge
    (hc.le.trans (le_add_of_nonneg_right zero_le_one))⟩

theorem rcpm_core_accurate {f : Int} (h₀ : 0 ≤ f) (h₁ : f ≤ 65535) :
    |(rcpm f : ℚ) / 2 ^ 16 * (1 + (f : ℚ) / 65536) - 1| ≤ 4.2 / 10 ^ 5 := by
  have hcore := rcpm_accurate h₀ h₁ le_rfl (le_add_of_nonneg_right zero_le_one)
  rwa [show (65536 + (f : ℚ)) / 2 ^ 16 = 1 + f / 65536 by ring] at hcore

/-- Settles O54: the core segment by segment, and the two commands by the mantissa they hand to the core. -/
theorem reciprocalsAreAccurate : Obligations.ReciprocalsAreAccurate :=
  ⟨fun _ => rcpm_core_accurate, exec_rcp1p_accurate, exec_rcp1m_accurate⟩

end Sys2Proof.Proofs
end

section
/-! `EXP2` is accurate: O53 (`40_math.md` R124, R129). The table's entries are powers of 2^(1/64) to
half a unit, the chord between two of them lies above the power by at most its sagitta, and the shift by the whole part
of the argument only takes a floor. -/

namespace Sys2Proof.Proofs

open Sys2Proof.Machine Sys2Proof.Claims

/-! ### The chord of the exponential -/

theorem exp_le_cubic {h : ℝ} (h₀ : 0 ≤ h) (h₁ : h ≤ 1) : Real.exp h ≤ 1 + h + h ^ 2 / 2 + 2 / 9 * h ^ 3 := by
  have hsum := Real.exp_bound' h₀ h₁ (n := 3) (by norm_num)
  norm_num [Finset.sum_range_succ, Nat.factorial] at hsum
  linarith

/-- The chord from 0 to `h` lies above the exponential by at most its sagitta. -/
theorem chord_le_exp {h s : ℝ} (h₀ : 0 ≤ h) (h₁ : h ≤ 1) (hs₀ : 0 ≤ s) (hs₁ : s ≤ 1) :
    1 + s * (Real.exp h - 1) ≤ Real.exp (h * s) * (1 + h ^ 2 / 2 * (s * (1 - s) + 4 / 9 * h * s)) := by
  have hexcess : 0 ≤ h ^ 2 / 2 * (s * (1 - s) + 4 / 9 * h * s) := by
    have : 0 ≤ 1 - s := by linarith
    positivity
  have hbelow := Real.quadratic_le_exp_of_nonneg (mul_nonneg h₀ hs₀)
  have habove := mul_le_mul_of_nonneg_left (exp_le_cubic h₀ h₁) hs₀
  have hone := Real.one_le_exp (mul_nonneg h₀ hs₀)
  calc 1 + s * (Real.exp h - 1) ≤ 1 + h * s + (h * s) ^ 2 / 2 + h ^ 2 / 2 * (s * (1 - s) + 4 / 9 * h * s) := by linarith
    _ ≤ Real.exp (h * s) + 1 * (h ^ 2 / 2 * (s * (1 - s) + 4 / 9 * h * s)) := by linarith
    _ ≤ Real.exp (h * s) + Real.exp (h * s) * (h ^ 2 / 2 * (s * (1 - s) + 4 / 9 * h * s)) := by gcongr
    _ = _ := by ring

/-- How far, relatively, a chord of `EXP2_TAB` lies above the power of two at the fraction `s` of its segment. -/
noncomputable def exp2Excess (s : ℝ) : ℝ := 5.865 / 10 ^ 5 * (s * (1 - s) + 0.00482 * s)

theorem exp2Excess_nonneg {s : ℝ} (hs₀ : 0 ≤ s) (hs₁ : s ≤ 1) : 0 ≤ exp2Excess s := by
  have : 0 ≤ 1 - s := by linarith
  unfold exp2Excess
  positivity

theorem exp2Excess_le {s : ℝ} (hs₁ : s ≤ 1) : exp2Excess s ≤ 1.4946 / 10 ^ 5 := by
  unfold exp2Excess
  nlinarith [sq_nonneg (s - 1 / 2)]

/-- The 64th root of two, the ratio of neighbouring table entries. -/
noncomputable def stepRatio : ℝ := (2 : ℝ) ^ (1 / 64 : ℝ)

theorem chord_le_two_rpow {s : ℝ} (hs₀ : 0 ≤ s) (hs₁ : s ≤ 1) :
    1 + s * (stepRatio - 1) ≤ (2 : ℝ) ^ (s / 64) * (1 + exp2Excess s) := by
  have hlog₀ : 0 < Real.log 2 := Real.log_pos one_lt_two
  have hlog₁ := Real.log_two_lt_d9
  have hstep : stepRatio = Real.exp (Real.log 2 / 64) := by
    rw [stepRatio, Real.rpow_def_of_pos two_pos]
    ring_nf
  have hpow : (2 : ℝ) ^ (s / 64) = Real.exp (Real.log 2 / 64 * s) := by
    rw [Real.rpow_def_of_pos two_pos]
    ring_nf
  have hh : Real.log 2 / 64 ≤ 0.010830425 := by linarith
  have hs₂ : 0 ≤ 1 - s := by linarith
  have hexcess : (Real.log 2 / 64) ^ 2 / 2 * (s * (1 - s) + 4 / 9 * (Real.log 2 / 64) * s) ≤ exp2Excess s := by
    have hsagitta : (Real.log 2 / 64) ^ 2 / 2 ≤ 5.865 / 10 ^ 5 := by nlinarith
    have hslope : 4 / 9 * (Real.log 2 / 64) ≤ 0.00482 := by linarith
    unfold exp2Excess
    gcongr
  rw [hstep, hpow]
  refine (chord_le_exp (by positivity) (by linarith) hs₀ hs₁).trans ?_
  gcongr

/-- The power of two is convex. -/
theorem two_rpow_le_chord {s : ℝ} (hs₀ : 0 ≤ s) (hs₁ : s ≤ 1) : (2 : ℝ) ^ (s / 64) ≤ 1 + s * (stepRatio - 1) := by
  have hratio : 0 < stepRatio := Real.rpow_pos_of_pos two_pos _
  have hbern := rpow_one_add_le_one_add_mul_self (s := stepRatio - 1) (by linarith) hs₀ hs₁
  rwa [add_sub_cancel, stepRatio, ← Real.rpow_mul two_pos.le, show (1 / 64 : ℝ) * s = s / 64 by ring] at hbern

/-! ### The table -/

/-- The table's entry is within half a unit of its power, both raised to the 64th power. -/
theorem exp2Tab_pow_bounds : ∀ j : Nat, j < 65 → 1 ≤ exp2Tab j ∧
    (2 * exp2Tab j - 1) ^ 64 ≤ (2 ^ 31) ^ 64 * 2 ^ j ∧ (2 ^ 31) ^ 64 * 2 ^ j ≤ (2 * exp2Tab j + 1) ^ 64 :=
  forall_lt_of_digits 5 13 (by decide)

theorem exp2Tab_rises : ∀ j : Nat, j < 64 → exp2Tab j < exp2Tab ((j : Int) + 1) ∧ exp2Tab ((j : Int) + 1) ≤ 2 ^ 31 :=
  forall_lt_of_digits 8 8 (by decide)

/-- The power of two that entry `j` stands for. -/
noncomputable def entryPower (j : Nat) : ℝ := (2 : ℝ) ^ ((j : ℝ) / 64)

theorem entryPower_succ (j : Nat) : entryPower (j + 1) = entryPower j * stepRatio := by
  rw [entryPower, entryPower, stepRatio, ← Real.rpow_add two_pos]
  push_cast
  ring_nf

theorem exp2Tab_near {j : Nat} (hj : j < 65) :
    2 ^ 30 * entryPower j - 1 / 2 ≤ exp2Tab j ∧ (exp2Tab j : ℝ) ≤ 2 ^ 30 * entryPower j + 1 / 2 := by
  obtain ⟨hpos, hlo, hhi⟩ := exp2Tab_pow_bounds j hj
  have hx₀ : 0 < entryPower j := Real.rpow_pos_of_pos two_pos _
  have hpow : (2 ^ 31 * entryPower j) ^ 64 = (2 ^ 31) ^ 64 * 2 ^ j := by
    have hroot : entryPower j ^ 64 = 2 ^ j := by
      rw [entryPower, ← Real.rpow_mul_natCast two_pos.le, ← Real.rpow_natCast]
      congr 1
      push_cast
      ring
    rw [mul_pow, hroot]
  have hpos' : (1 : ℝ) ≤ exp2Tab j := by exact_mod_cast hpos
  have hlo' : (2 * (exp2Tab j : ℝ) - 1) ^ 64 ≤ (2 ^ 31 * entryPower j) ^ 64 := by
    rw [hpow]
    exact_mod_cast hlo
  have hhi' : (2 ^ 31 * entryPower j) ^ 64 ≤ (2 * (exp2Tab j : ℝ) + 1) ^ 64 := by
    rw [hpow]
    exact_mod_cast hhi
  rw [pow_le_pow_iff_left₀ (by linarith) (by positivity) (by norm_num)] at hlo'
  rw [pow_le_pow_iff_left₀ (by positivity) (by linarith) (by norm_num)] at hhi'
  constructor <;> linarith

/-- The fraction of its segment at which a table is read. -/
noncomputable def segmentFraction (x : Int) : ℝ := ((x % 2 ^ 21 : Int) : ℝ) / 2 ^ 21

theorem segmentFraction_bounds (x : Int) : 0 ≤ segmentFraction x ∧ segmentFraction x ≤ 1 := by
  have h₀ : (0 : ℝ) ≤ (x % 2 ^ 21 : Int) := by exact_mod_cast Int.emod_nonneg x (by norm_num)
  have h₁ : ((x % 2 ^ 21 : Int) : ℝ) ≤ 2 ^ 21 := by exact_mod_cast (Int.emod_lt_of_pos x (by norm_num)).le
  exact ⟨div_nonneg h₀ (by positivity), (div_le_one (by positivity)).2 h₁⟩

/-- A floored interpolation lies at most 1 below the chord. -/
theorem lerp_floor (a b x : Int) :
    (1 - segmentFraction x) * a + segmentFraction x * b - 1 ≤ ((a + asr ((b - a) * (x % 2 ^ 21)) 21 : Int) : ℝ) ∧
      ((a + asr ((b - a) * (x % 2 ^ 21)) 21 : Int) : ℝ) ≤ (1 - segmentFraction x) * a + segmentFraction x * b := by
  obtain ⟨hlo, hhi⟩ := asr_floor ((b - a) * (x % 2 ^ 21)) 21
  have hlo' : (asr ((b - a) * (x % 2 ^ 21)) 21 : ℝ) * 2 ^ 21 ≤ (b - a) * (x % 2 ^ 21 : Int) := by exact_mod_cast hlo
  have hhi' : ((b : ℝ) - a) * (x % 2 ^ 21 : Int) ≤ (asr ((b - a) * (x % 2 ^ 21)) 21 + 1) * 2 ^ 21 := by
    exact_mod_cast hhi.le
  have hfrac : ((x % 2 ^ 21 : Int) : ℝ) = segmentFraction x * 2 ^ 21 := (div_mul_cancel₀ _ (by positivity)).symm
  rw [hfrac] at hlo' hhi'
  rw [Int.cast_add]
  constructor <;> linarith

/-! ### The mantissa -/

/-- The table's segment of a fractional part. -/
theorem exp2Mantissa_eq {x : Int} (h₀ : 0 ≤ x) (h₁ : x < 2 ^ 27) : ∃ j : Nat, j < 64 ∧
    exp2Mantissa x = exp2Tab j + asr ((exp2Tab ((j : Int) + 1) - exp2Tab j) * (x % 2 ^ 21)) 21 ∧
    (x : ℝ) / 2 ^ 27 = j / 64 + segmentFraction x / 64 := by
  obtain ⟨j, hj⟩ := Int.eq_ofNat_of_zero_le (show 0 ≤ x / 2 ^ 21 by omega)
  have hsplit : (j : Int) * 2 ^ 21 + x % 2 ^ 21 = x := by omega
  refine ⟨j, by omega, by rw [← hj]; rfl, ?_⟩
  have hcast : (x : ℝ) = j * 2 ^ 21 + (x % 2 ^ 21 : Int) := by exact_mod_cast hsplit.symm
  rw [segmentFraction, hcast]
  ring

theorem exp2Mantissa_range {x : Int} (h₀ : 0 ≤ x) (h₁ : x < 2 ^ 27) : 0 ≤ exp2Mantissa x ∧ exp2Mantissa x < 2 ^ 31 := by
  obtain ⟨j, hj, heq, -⟩ := exp2Mantissa_eq h₀ h₁
  obtain ⟨hrise, htop⟩ := exp2Tab_rises j hj
  have hbottom := (exp2Tab_pow_bounds j (by omega)).1
  have hr₀ : 0 ≤ x % 2 ^ 21 := by omega
  have hr₁ : x % 2 ^ 21 < 2 ^ 21 := by omega
  have hd : 0 < exp2Tab ((j : Int) + 1) - exp2Tab j := by omega
  have hlerp := asr_bounds ((exp2Tab ((j : Int) + 1) - exp2Tab j) * (x % 2 ^ 21)) 0
    (exp2Tab ((j : Int) + 1) - exp2Tab j - 1) 21 (by positivity) (by rw [sub_add_cancel]; gcongr)
  omega

theorem exp2Mantissa_bounds {x : Int} (h₀ : 0 ≤ x) (h₁ : x < 2 ^ 27) :
    2 ^ 30 * (2 : ℝ) ^ ((x : ℝ) / 2 ^ 27) - 3 / 2 ≤ exp2Mantissa x ∧
      (exp2Mantissa x : ℝ) ≤ 2 ^ 30 * ((2 : ℝ) ^ ((x : ℝ) / 2 ^ 27) * (1 + exp2Excess (segmentFraction x))) + 1 / 2 := by
  obtain ⟨j, hj, heq, hx⟩ := exp2Mantissa_eq h₀ h₁
  obtain ⟨hs₀, hs₁⟩ := segmentFraction_bounds x
  obtain ⟨hfl₀, hfl₁⟩ := lerp_floor (exp2Tab j) (exp2Tab ((j : Int) + 1)) x
  obtain ⟨hthis₀, hthis₁⟩ := exp2Tab_near (show j < 65 by omega)
  obtain ⟨hnext₀, hnext₁⟩ := exp2Tab_near (show j + 1 < 65 by omega)
  rw [entryPower_succ, show ((j + 1 : Nat) : Int) = (j : Int) + 1 from rfl] at hnext₀ hnext₁
  have hp : 0 < entryPower j := Real.rpow_pos_of_pos two_pos _
  have hbelow := mul_le_mul_of_nonneg_left (two_rpow_le_chord hs₀ hs₁) hp.le
  have habove := mul_le_mul_of_nonneg_left (chord_le_two_rpow hs₀ hs₁) hp.le
  rw [← heq] at hfl₀ hfl₁
  rw [hx, Real.rpow_add two_pos, ← entryPower]
  have hs₂ : 0 ≤ 1 - segmentFraction x := by linarith
  constructor
  · have hthis := mul_le_mul_of_nonneg_left hthis₀ hs₂
    have hnext := mul_le_mul_of_nonneg_left hnext₀ hs₀
    linarith
  · have hthis := mul_le_mul_of_nonneg_left hthis₁ hs₂
    have hnext := mul_le_mul_of_nonneg_left hnext₁ hs₀
    linarith

/-! ### The shift by the whole part -/

/-- Shifting the mantissa by the whole part takes a floor and never saturates below 14. -/
theorem exp2_floor {x : Int} (h₀ : 0 ≤ x) (h₁ : x < 14 * 2 ^ 27) : ∃ k : Nat, x / 2 ^ 27 = k ∧
    exp2 x * 2 ^ 12 ≤ 2 ^ k * exp2Mantissa (x % 2 ^ 27) ∧ 2 ^ k * exp2Mantissa (x % 2 ^ 27) < (exp2 x + 1) * 2 ^ 12 := by
  obtain ⟨k, hk⟩ := Int.eq_ofNat_of_zero_le (show 0 ≤ x / 2 ^ 27 by omega)
  obtain ⟨y, hy⟩ : ∃ y, y = exp2Mantissa (x % 2 ^ 27) := ⟨_, rfl⟩
  obtain ⟨hy₀, hy₁⟩ := exp2Mantissa_range (show 0 ≤ x % 2 ^ 27 by omega) (by omega)
  refine ⟨k, hk, ?_⟩
  have hxi : asr x 27 = k := hk
  rw [← hy] at hy₀ hy₁ ⊢
  obtain hle | rfl : k ≤ 12 ∨ k = 13 := by omega
  · obtain ⟨n, hn⟩ := Nat.exists_eq_add_of_le hle
    have hpos : (0 : Int) < 2 ^ n := by positivity
    obtain ⟨ha₀, ha₁⟩ := asr_bounds y 0 (2 ^ 31 - 1) n (by simpa using hy₀) (by nlinarith)
    have hexp : exp2 x = asr y n := by
      have hsh : (12 : Int) - k = n := by omega
      simp only [exp2, hxi, hsh, ← hy, Int.natCast_nonneg, if_true, Int.toNat_natCast]
      exact clamp_of_mem _ _ _ ha₀ (by omega)
    obtain ⟨hlo, hhi⟩ := asr_floor y n
    have hkn : (2 : Int) ^ k * 2 ^ n = 2 ^ 12 := by rw [← pow_add, ← hn]
    rw [hexp, ← hkn, mul_left_comm, mul_left_comm _ (2 ^ k)]
    exact ⟨by gcongr, by gcongr⟩
  · have hexp : exp2 x = y * 2 := by
      simp only [exp2, hxi, ← hy]
      exact clamp_of_mem _ _ _ (by simp [shl]; omega) (by simp [shl]; omega)
    rw [hexp]
    constructor <;> linarith

/-- `EXP2` between the power of two and the power with the chord's excess. -/
theorem exp2_bounds {x : Int} (h₀ : 0 ≤ x) (h₁ : x < 14 * 2 ^ 27) :
    (2 : ℝ) ^ ((x : ℝ) / 2 ^ 27) * (1 - 3 / 2 ^ 31) - 1 / 2 ^ 18 ≤ (exp2 x : ℝ) / 2 ^ 18 ∧
      (exp2 x : ℝ) / 2 ^ 18 ≤ (2 : ℝ) ^ ((x : ℝ) / 2 ^ 27) * (1 + exp2Excess (segmentFraction x) + 1 / 2 ^ 31) := by
  obtain ⟨k, hk, hle, hge⟩ := exp2_floor h₀ h₁
  obtain ⟨f, hf⟩ : ∃ f, f = x % 2 ^ 27 := ⟨_, rfl⟩
  obtain ⟨hlo, hhi⟩ := exp2Mantissa_bounds (show 0 ≤ f by omega) (by omega)
  rw [← hf] at hle hge
  have hle' : (exp2 x : ℝ) * 2 ^ 12 ≤ 2 ^ k * exp2Mantissa f := by exact_mod_cast hle
  have hge' : 2 ^ k * (exp2Mantissa f : ℝ) ≤ (exp2 x + 1) * 2 ^ 12 := by exact_mod_cast hge.le
  have hsplit : (x : ℝ) / 2 ^ 27 = k + (f : ℝ) / 2 ^ 27 := by
    have hint : x = k * 2 ^ 27 + f := by omega
    rw [hint]
    push_cast
    ring
  have hfrac : segmentFraction x = segmentFraction f := by
    rw [segmentFraction, segmentFraction, show x % 2 ^ 21 = f % 2 ^ 21 by omega]
  have hone : (1 : ℝ) ≤ 2 ^ ((f : ℝ) / 2 ^ 27) :=
    Real.one_le_rpow one_le_two (div_nonneg (by exact_mod_cast (show 0 ≤ f by omega)) (by positivity))
  rw [hsplit, hfrac, Real.rpow_add two_pos, Real.rpow_natCast]
  generalize (2 : ℝ) ^ ((f : ℝ) / 2 ^ 27) = p at *
  have hk₀ : (0 : ℝ) ≤ 2 ^ k := by positivity
  have hlo' := mul_le_mul_of_nonneg_left hlo hk₀
  have hhi' := mul_le_mul_of_nonneg_left hhi hk₀
  have hone' := mul_le_mul_of_nonneg_left hone hk₀
  generalize (2 : ℝ) ^ k = t at *
  constructor <;> linarith

theorem exec_exp2 (s : State) : exec .exp2 s = .next (mathResult (exp2 (s32 s.mathArg)) 0 s) := rfl

/-- A word stored unsigned, as the register reads. -/
theorem mathRes_mathResult {m : Int} (h₀ : 0 ≤ m) (h₁ : m < 2 ^ 32) (e : Int) (s : State) :
    ((mathResult m e s).mathRes.toNat : ℝ) = m := by
  have h : ((to32 m).toNat : Int) = m := toNat_to32 h₀ h₁
  exact_mod_cast h

theorem exp2_range (x : Int) : 0 ≤ exp2 x ∧ exp2 x < 2 ^ 32 := by
  obtain ⟨h₀, h₁⟩ := satU32_bounds _
  exact ⟨h₀, Int.lt_of_le_of_lt h₁ (by norm_num)⟩

/-- Settles O53. -/
theorem exp2IsAccurate : Obligations.Exp2IsAccurate := by
  intro s h₀ h₁
  refine ⟨_, exec_exp2 s, ?_⟩
  obtain ⟨hr₀, hr₁⟩ := exp2_range (s32 s.mathArg)
  obtain ⟨hlo, hhi⟩ := exp2_bounds h₀ h₁
  have hexcess := exp2Excess_le (segmentFraction_bounds s.mathArg.toInt).2
  have hone : (1 : ℝ) ≤ 2 ^ ((s.mathArg.toInt : ℝ) / 2 ^ 27) :=
    Real.one_le_rpow one_le_two (div_nonneg (by exact_mod_cast h₀) (by positivity))
  have hexcess' := mul_le_mul_of_nonneg_left hexcess (zero_le_one.trans hone)
  rw [mathRes_mathResult hr₀ hr₁, abs_le, s32]
  constructor <;> linarith

end Sys2Proof.Proofs
end

section
/-! `N2F` is accurate: O55 (`40_math.md` R125, R129). Its argument is the logarithm of the note's frequency to one unit up
and 320 units down, so that in cents it adds next to nothing to the error of `EXP2`; at the integer notes `EXP2` is read
near three fractions of a segment only. -/

namespace Sys2Proof.Proofs

open Sys2Proof.Machine Sys2Proof.Claims

/-! ### The logarithm of the frequency -/

/-- Nearness of two powers, in logarithms. -/
theorem log_le_of_pow_le {a b c d p q : Nat} (ha : 0 < a) (hb : 0 < b) (hc : 0 < c) (hd : 0 < d)
    (h : d * a ^ p ≤ c * b ^ q) : p * Real.log a ≤ q * Real.log b + ((c : ℝ) / d - 1) := by
  have hreal : (a : ℝ) ^ p ≤ (c : ℝ) / d * b ^ q := by
    rw [div_mul_eq_mul_div, le_div_iff₀ (by positivity), mul_comm]
    exact_mod_cast h
  have hlog := Real.log_le_log (by positivity) hreal
  have hratio := Real.log_le_sub_one_of_pos (show (0 : ℝ) < (c : ℝ) / d by positivity)
  rw [Real.log_mul (by positivity) (by positivity), Real.log_pow, Real.log_pow] at hlog
  linarith

theorem pow_55_279_near : 55 ^ 279 ≤ 2 ^ 1613 ∧ 100000000 * 2 ^ 1613 ≤ 100044367 * 55 ^ 279 := by
  rw [show 279 = 93 * 3 from rfl, show 1613 = 200 * 8 + 13 from rfl, pow_add, pow_mul, pow_mul]
  norm_num

/-- The logarithm of 440 = 8 · 55, from the nearness of 55^279 and 2^1613. -/
theorem logb_440_bounds : 3 + (1613 - 0.00064009) / 279 ≤ Real.logb 2 440 ∧ Real.logb 2 440 ≤ 3 + 1613 / 279 := by
  have hlog₀ : 0 < Real.log 2 := Real.log_pos one_lt_two
  have hlog₁ := Real.log_two_gt_d9
  have hsplit : Real.logb 2 440 = 3 + Real.log 55 / Real.log 2 := by
    rw [show (440 : ℝ) = 2 ^ 3 * 55 by norm_num, Real.logb_mul (by norm_num) (by norm_num), Real.logb_pow,
      Real.logb_self_eq_one one_lt_two, Real.logb]
    norm_num
  have hup := log_le_of_pow_le (a := 55) (b := 2) (c := 1) (d := 1) (p := 279) (q := 1613)
    (by decide) (by decide) (by decide) (by decide) (by simpa only [one_mul] using pow_55_279_near.1)
  have hdown := log_le_of_pow_le (a := 2) (b := 55) (c := 100044367) (d := 100000000) (p := 1613) (q := 279)
    (by decide) (by decide) (by decide) (by decide) pow_55_279_near.2
  push_cast at hup hdown
  have hle : Real.log 55 / Real.log 2 ≤ 1613 / 279 := by
    rw [div_le_div_iff₀ hlog₀ (by norm_num)]
    linarith
  have hge : (1613 - 0.00064009) / 279 ≤ Real.log 55 / Real.log 2 := by
    rw [div_le_div_iff₀ (by norm_num) hlog₀]
    linarith
  rw [hsplit]
  constructor <;> linarith

/-- The argument that `N2F` hands to `EXP2`. -/
def n2fArg (n : Nat) : Int := asr (n * rcp12) 16 + n2fC0

/-- The logarithm of the frequency of note `n`/512. -/
noncomputable def noteLog (n : Nat) : ℝ := Real.logb 2 440 + ((n : ℝ) / 512 - 69) / 12

theorem two_rpow_noteLog (n : Nat) : (2 : ℝ) ^ noteLog n = 440 * (2 : ℝ) ^ (((n : ℝ) / 512 - 69) / 12) := by
  rw [noteLog, Real.rpow_add two_pos, Real.rpow_logb two_pos (by norm_num) (by norm_num)]

/-- The argument is the logarithm to 320 units down and one unit up. -/
theorem n2fArg_near {n : Nat} (hn : n < 2 ^ 16) :
    -320 / 2 ^ 27 ≤ (n2fArg n : ℝ) / 2 ^ 27 - noteLog n ∧ (n2fArg n : ℝ) / 2 ^ 27 - noteLog n ≤ 1 / 2 ^ 27 := by
  obtain ⟨hlo, hhi⟩ := asr_floor (n * rcp12) 16
  obtain ⟨hlog₀, hlog₁⟩ := logb_440_bounds
  have harg : (asr (n * rcp12) 16 : ℝ) = n2fArg n - 406862214 := by
    rw [n2fArg, n2fC0]
    push_cast
    ring
  have hlo' : (asr (n * rcp12) 16 : ℝ) * 2 ^ 16 ≤ n * 1431655765 := by exact_mod_cast hlo
  have hhi' : (n : ℝ) * 1431655765 ≤ (asr (n * rcp12) 16 + 1) * 2 ^ 16 := by exact_mod_cast hhi.le
  have hn' : (n : ℝ) ≤ 2 ^ 16 := by exact_mod_cast hn.le
  rw [harg] at hlo' hhi'
  unfold noteLog
  constructor <;> linarith

theorem n2fArg_range {n : Nat} (hn : n < 2 ^ 16) : 3 * 2 ^ 27 ≤ n2fArg n ∧ n2fArg n < 14 * 2 ^ 27 := by
  unfold n2fArg n2fC0 rcp12 asr
  omega

/-! ### Cents -/

/-- A relative error as an error of the logarithm. -/
theorem logb_ratio_bounds {r v ε : ℝ} (hv : 0 < v) (hε : 0 ≤ ε) (hlo : v * (1 - 1 / 10 ^ 6) ≤ r) (hhi : r ≤ v * (1 + ε)) :
    -(2 / 10 ^ 6) ≤ Real.logb 2 (r / v) ∧ Real.logb 2 (r / v) ≤ 1.442696 * ε := by
  have hlog := Real.log_two_gt_d9
  have hlog₀ : 0 < Real.log 2 := by linarith
  have hge : 1 - 1 / 10 ^ 6 ≤ r / v := by rwa [le_div_iff₀ hv, mul_comm]
  have hle : r / v ≤ 1 + ε := by rwa [div_le_iff₀ hv, mul_comm]
  have hpos : 0 < r / v := by linarith
  have hinv : (r / v)⁻¹ ≤ 1 + 1.1 / 10 ^ 6 := (inv_anti₀ (by norm_num) hge).trans (by norm_num)
  have hdown := Real.one_sub_inv_le_log_of_pos hpos
  have hup := Real.log_le_sub_one_of_pos hpos
  rw [Real.logb, le_div_iff₀ hlog₀, div_le_iff₀ hlog₀]
  constructor
  · linarith
  · have := mul_le_mul_of_nonneg_left hlog.le hε
    linarith

/-- The error of `N2F` in cents, by the chord's excess where the table is read. -/
theorem n2f_cents_bounds {n : Nat} (hn : n < 2 ^ 16) :
    -0.006 ≤ 1200 * Real.logb 2 ((n2f n : ℝ) / 2 ^ 18 / 2 ^ noteLog n) ∧
      1200 * Real.logb 2 ((n2f n : ℝ) / 2 ^ 18 / 2 ^ noteLog n) ≤
        1731.2352 * exp2Excess (segmentFraction (n2fArg n)) + 0.00001 := by
  obtain ⟨hx₀, hx₁⟩ := n2fArg_range hn
  obtain ⟨hlo, hhi⟩ := exp2_bounds (by omega) hx₁
  obtain ⟨hnear₀, hnear₁⟩ := n2fArg_near hn
  obtain ⟨hs₀, hs₁⟩ := segmentFraction_bounds (n2fArg n)
  have hexcess := exp2Excess_nonneg hs₀ hs₁
  have hge_eight : (2 : ℝ) ^ (3 : ℝ) ≤ 2 ^ ((n2fArg n : ℝ) / 2 ^ 27) := by
    have hcast : (3 * 2 ^ 27 : ℝ) ≤ n2fArg n := by exact_mod_cast hx₀
    refine Real.rpow_le_rpow_of_exponent_le one_le_two ?_
    rwa [le_div_iff₀ (by positivity)]
  have hpow : 0 < (2 : ℝ) ^ ((n2fArg n : ℝ) / 2 ^ 27) := Real.rpow_pos_of_pos two_pos _
  norm_num at hge_eight
  have hlo' : (2 : ℝ) ^ ((n2fArg n : ℝ) / 2 ^ 27) * (1 - 1 / 10 ^ 6) ≤ (n2f n : ℝ) / 2 ^ 18 := by
    refine le_trans ?_ hlo
    linarith
  obtain ⟨hlog₀, hlog₁⟩ := logb_ratio_bounds hpow (by positivity) hlo' ((add_assoc (1 : ℝ) _ _) ▸ hhi)
  have hvalue : (n2f n : ℝ) / 2 ^ 18 / 2 ^ ((n2fArg n : ℝ) / 2 ^ 27) ≠ 0 :=
    (div_pos (lt_of_lt_of_le (by positivity) hlo') hpow).ne'
  have hsplit : Real.logb 2 ((n2f n : ℝ) / 2 ^ 18 / 2 ^ noteLog n) =
      Real.logb 2 ((n2f n : ℝ) / 2 ^ 18 / 2 ^ ((n2fArg n : ℝ) / 2 ^ 27)) + ((n2fArg n : ℝ) / 2 ^ 27 - noteLog n) := by
    rw [← div_mul_div_cancel₀ hpow.ne', Real.logb_mul hvalue (by positivity), ← Real.rpow_sub two_pos,
      Real.logb_rpow two_pos (by norm_num)]
  rw [hsplit]
  constructor <;> linarith

/-- At the integer notes the table is read near the fractions 0.007, 0.340 and 0.674 of a segment. -/
theorem integerNote_fraction : ∀ m < 128, 100000 * (n2fArg (512 * m) % 2 ^ 21 * (2 ^ 21 - n2fArg (512 * m) % 2 ^ 21)) +
    482 * 2 ^ 21 * (n2fArg (512 * m) % 2 ^ 21) ≤ 22630 * 2 ^ 42 :=
  forall_lt_of_digits 8 16 (by decide)

theorem exp2Excess_integerNote {n : Nat} (hn : n < 2 ^ 16) (hint : n % 512 = 0) :
    exp2Excess (segmentFraction (n2fArg n)) ≤ 1.3273 / 10 ^ 5 := by
  obtain ⟨m, rfl⟩ := Nat.dvd_of_mod_eq_zero hint
  have hcheck := integerNote_fraction m (by omega)
  obtain ⟨r, hr⟩ : ∃ r, r = n2fArg (512 * m) % 2 ^ 21 := ⟨_, rfl⟩
  rw [← hr] at hcheck
  have hcheck' : 100000 * ((r : ℝ) * (2 ^ 21 - r)) + 482 * 2 ^ 21 * r ≤ 22630 * 2 ^ 42 := by exact_mod_cast hcheck
  rw [exp2Excess, segmentFraction, ← hr]
  linarith

theorem exec_n2f (s : State) : exec .n2f s = .next (mathResult (n2f (mathArgLow s)) 0 s) := rfl

/-- Settles O55: the two bounds are the chord's excess anywhere and at the integer notes. -/
theorem n2fIsAccurate : Obligations.N2fIsAccurate := by
  intro s
  refine ⟨_, exec_n2f s, ?_⟩
  intro n cents
  have hn : n < 2 ^ 16 := Nat.mod_lt _ (by positivity)
  obtain ⟨hr₀, hr₁⟩ := exp2_range (n2fArg n)
  obtain ⟨hlo, hhi⟩ := n2f_cents_bounds hn
  have hcents : cents = 1200 * Real.logb 2 ((n2f n : ℝ) / 2 ^ 18 / 2 ^ noteLog n) := by
    have hres : ((mathResult (n2f (mathArgLow s)) 0 s).mathRes.toNat : ℝ) = n2f n := by
      rw [mathArgLow_eq]
      exact mathRes_mathResult hr₀ hr₁ 0 s
    rw [two_rpow_noteLog, ← hres]
  rw [hcents]
  refine ⟨abs_le.2 ⟨by linarith, ?_⟩, fun hint => abs_le.2 ⟨by linarith, ?_⟩⟩
  · have := exp2Excess_le (segmentFraction_bounds (n2fArg n)).2
    linarith
  · have := exp2Excess_integerNote hn hint
    linarith

end Sys2Proof.Proofs
end

section
/-! `SINPI` is accurate: O52 (`40_math.md` R121, R129). Between two table points the sine exceeds its chord by a share of
the two sines at the points; the floor and the chord both pull down, so near the crests the bound needs the table's own
rounding errors. These come from the powers of the first turn, computed exactly as Gaussian integers. -/

namespace Sys2Proof.Proofs

open Sys2Proof.Machine Sys2Proof.Claims

/-! ### The sine between two points -/

theorem mul_sin_le_sin_mul {t x : ℝ} (ht₀ : 0 ≤ t) (ht₁ : t ≤ 1) (hx₀ : 0 ≤ x) (hx₁ : x ≤ Real.pi) :
    t * Real.sin x ≤ Real.sin (t * x) := by
  have h := strictConcaveOn_sin_Icc.concaveOn.2 (x := 0) (y := x) ⟨le_rfl, Real.pi_pos.le⟩ ⟨hx₀, hx₁⟩
    (sub_nonneg.2 ht₁) ht₀ (sub_add_cancel 1 t)
  simpa using h

/-- A smaller arc's versed sine is at most its square's share of the whole one. -/
theorem cos_mul_le {w x : ℝ} (hw₀ : 0 ≤ w) (hw₁ : w ≤ 1) (hx₀ : 0 ≤ x) (hx₁ : x ≤ Real.pi) :
    Real.cos (w * x) ≤ 1 - w ^ 2 * (1 - Real.cos x) := by
  have hsin : (w * Real.sin (x / 2)) ^ 2 ≤ Real.sin (w * (x / 2)) ^ 2 :=
    pow_le_pow_left₀ (mul_nonneg hw₀ (Real.sin_nonneg_of_nonneg_of_le_pi (by linarith) (by linarith)))
      (mul_sin_le_sin_mul hw₀ hw₁ (by linarith) (by linarith)) 2
  have hwhole := Real.cos_two_mul_eq_one_sub (x / 2)
  have hpart := Real.cos_two_mul_eq_one_sub (w * (x / 2))
  rw [mul_div_cancel₀ x two_ne_zero] at hwhole
  rw [show 2 * (w * (x / 2)) = w * x by ring] at hpart
  rw [hwhole, hpart]
  linarith

/-- The angle between two table points. -/
noncomputable def tableAngle : ℝ := Real.pi / 128

theorem tableAngle_bounds : 0 < tableAngle ∧ tableAngle ≤ 0.0245438 := by
  have h₀ := Real.pi_pos
  have h₁ := Real.pi_lt_d6
  unfold tableAngle
  constructor <;> linarith

/-- The share of the sine at one end of a segment by which the sine exceeds the chord, `s` away from the other end. -/
noncomputable def arcExcess (s : ℝ) : ℝ := Real.sin (s * tableAngle) / Real.sin tableAngle - s

theorem sin_tableAngle_pos : 0 < Real.sin tableAngle := by
  obtain ⟨h₀, h₁⟩ := tableAngle_bounds
  exact Real.sin_pos_of_pos_of_lt_pi h₀ (by linarith [Real.pi_gt_three])

theorem arcExcess_nonneg {s : ℝ} (hs₀ : 0 ≤ s) (hs₁ : s ≤ 1) : 0 ≤ arcExcess s := by
  obtain ⟨h₀, h₁⟩ := tableAngle_bounds
  rw [arcExcess, sub_nonneg, le_div_iff₀ sin_tableAngle_pos]
  exact mul_sin_le_sin_mul hs₀ hs₁ h₀.le (by linarith [Real.pi_gt_three])

theorem arcExcess_mul_sin (s : ℝ) :
    arcExcess s * Real.sin tableAngle = Real.sin (s * tableAngle) - s * Real.sin tableAngle := by
  rw [arcExcess, sub_mul, div_mul_cancel₀ _ sin_tableAngle_pos.ne']

/-- The sine in a segment is the chord and the two excesses. -/
theorem sin_segment (α s : ℝ) : Real.sin (α + s * tableAngle) = (1 - s) * Real.sin α + s * Real.sin (α + tableAngle) +
    (arcExcess (1 - s) * Real.sin α + arcExcess s * Real.sin (α + tableAngle)) := by
  have hrot : Real.sin tableAngle * Real.sin (α + s * tableAngle) =
      Real.sin ((1 - s) * tableAngle) * Real.sin α + Real.sin (s * tableAngle) * Real.sin (α + tableAngle) := by
    rw [sub_mul, one_mul, Real.sin_sub, Real.sin_add, Real.sin_add]
    ring
  refine mul_left_cancel₀ sin_tableAngle_pos.ne' ?_
  linear_combination hrot - Real.sin α * arcExcess_mul_sin (1 - s) - Real.sin (α + tableAngle) * arcExcess_mul_sin s

/-- The two excesses together are at most the sagitta at the fraction `s`. -/
theorem arcExcess_add_le {s : ℝ} (hs₀ : 0 ≤ s) (hs₁ : s ≤ 1) :
    arcExcess (1 - s) + arcExcess s ≤ 7.54 / 10 ^ 5 * (4 * (s * (1 - s))) := by
  obtain ⟨h₀, h₁⟩ := tableAngle_bounds
  have hpi := Real.pi_gt_three
  have hcos : 1 - 7.531 / 10 ^ 5 ≤ Real.cos (tableAngle / 2) := by
    have := Real.one_sub_sq_div_two_le_cos (x := tableAngle / 2)
    nlinarith
  have hcos₀ : 0 < Real.cos (tableAngle / 2) := by linarith
  have hhalf := Real.sin_two_mul (tableAngle / 2)
  rw [mul_div_cancel₀ _ two_ne_zero] at hhalf
  have hsum : arcExcess (1 - s) + arcExcess s = Real.cos (|1 - 2 * s| * (tableAngle / 2)) / Real.cos (tableAngle / 2) - 1 := by
    have hsin : 0 < Real.sin (tableAngle / 2) := Real.sin_pos_of_pos_of_lt_pi (by linarith) (by linarith)
    have hadd : Real.sin ((1 - s) * tableAngle) + Real.sin (s * tableAngle) =
        2 * Real.sin (tableAngle / 2) * Real.cos (|1 - 2 * s| * (tableAngle / 2)) := by
      rw [Real.sin_add_sin, ← Real.cos_abs (((1 - s) * tableAngle - s * tableAngle) / 2),
        show ((1 - s) * tableAngle - s * tableAngle) / 2 = (1 - 2 * s) * (tableAngle / 2) by ring, abs_mul,
        abs_of_pos (half_pos h₀)]
      ring_nf
    rw [eq_sub_iff_add_eq, eq_div_iff hcos₀.ne']
    refine mul_left_cancel₀ (mul_pos two_pos hsin).ne' ?_
    linear_combination hadd + arcExcess_mul_sin (1 - s) + arcExcess_mul_sin s -
      (arcExcess (1 - s) + arcExcess s + 1) * hhalf
  have hw : |1 - 2 * s| ≤ 1 := abs_le.2 ⟨by linarith, by linarith⟩
  have hver := cos_mul_le (abs_nonneg (1 - 2 * s)) hw (half_pos h₀).le (by linarith)
  rw [sq_abs] at hver
  have hs₂ : 0 ≤ s * (1 - s) := mul_nonneg hs₀ (by linarith)
  have hone := Real.cos_le_one (tableAngle / 2)
  rw [hsum, sub_le_iff_le_add, div_le_iff₀ hcos₀]
  nlinarith

/-! ### The powers of the first turn -/

/-- The product of Gaussian integers. -/
def gaussMul (z w : Int × Int) : Int × Int := (z.1 * w.1 - z.2 * w.2, z.1 * w.2 + z.2 * w.1)

/-- A power of a Gaussian integer. -/
def gaussPow (z : Int × Int) : Nat → Int × Int
  | 0 => (1, 0)
  | n + 1 => gaussMul (gaussPow z n) z

/-- A Gaussian integer as a complex number. -/
noncomputable def toComplex (z : Int × Int) : ℂ := ⟨z.1, z.2⟩

theorem toComplex_gaussMul (z w : Int × Int) : toComplex (gaussMul z w) = toComplex z * toComplex w := by
  apply Complex.ext <;> simp [toComplex, gaussMul]

theorem toComplex_gaussPow (z : Int × Int) (n : Nat) : toComplex (gaussPow z n) = toComplex z ^ n := by
  induction n with
  | zero => apply Complex.ext <;> simp [toComplex, gaussPow]
  | succ n ih => rw [gaussPow, toComplex_gaussMul, ih, pow_succ]

/-- The turn by the angle between two table points, times 2^40. -/
def firstTurn : Int × Int := (1099180475430, 26983366120)

/-- The turn to table point `j`, times 2^(40 j), by its two digits. -/
def turnTo (j : Nat) : Int × Int := gaussMul (gaussPow (gaussPow firstTurn 16) (j / 16)) (gaussPow firstTurn (j % 16))

theorem toComplex_turnTo (j : Nat) : toComplex (turnTo j) = toComplex firstTurn ^ j := by
  rw [turnTo, toComplex_gaussMul, toComplex_gaussPow, toComplex_gaussPow, toComplex_gaussPow, ← pow_mul, ← pow_add,
    Nat.div_add_mod]

/-- The powers of two points of the unit disk part at most linearly. -/
theorem norm_pow_sub_pow_le {a b : ℂ} (ha : ‖a‖ ≤ 1) (hb : ‖b‖ ≤ 1) (n : Nat) : ‖a ^ n - b ^ n‖ ≤ n * ‖a - b‖ := by
  induction n with
  | zero => simp
  | succ n ih =>
    have hsplit : a ^ (n + 1) - b ^ (n + 1) = (a ^ n - b ^ n) * a + b ^ n * (a - b) := by ring
    have hbn : ‖b ^ n‖ ≤ 1 := by
      rw [norm_pow]
      exact pow_le_one₀ (norm_nonneg b) hb
    calc ‖a ^ (n + 1) - b ^ (n + 1)‖ ≤ ‖a ^ n - b ^ n‖ * ‖a‖ + ‖b ^ n‖ * ‖a - b‖ := by
          rw [hsplit, ← norm_mul, ← norm_mul]
          exact norm_add_le _ _
      _ ≤ n * ‖a - b‖ * 1 + 1 * ‖a - b‖ := by gcongr
      _ = (n + 1 : Nat) * ‖a - b‖ := by push_cast; ring

/-- The first turn itself. -/
theorem firstTurn_near : |26983366120 / 2 ^ 40 - Real.sin tableAngle| ≤ 1.7 / 10 ^ 10 ∧
    |1099180475430 / 2 ^ 40 - Real.cos tableAngle| ≤ 0.1 / 10 ^ 10 := by
  obtain ⟨h₀, h₁⟩ := tableAngle_bounds
  have hpi₀ := Real.pi_gt_d20
  have hpi₁ := Real.pi_lt_d20
  have hlo : 0.02454369260617025967 ≤ tableAngle := by unfold tableAngle; linarith
  have hhi : tableAngle ≤ 0.02454369260617025968 := by unfold tableAngle; linarith
  have hsin : |26983366120 / 2 ^ 40 - Real.sin tableAngle| ≤ 1.7 / 10 ^ 10 := by
    have hbound := Real.sin_bound (x := tableAngle) (by rw [abs_of_pos h₀]; linarith)
    rw [abs_of_pos h₀, abs_le] at hbound
    have h3lo := pow_le_pow_left₀ (by norm_num) hlo 3
    have h3hi := pow_le_pow_left₀ h₀.le hhi 3
    have h5hi := pow_le_pow_left₀ h₀.le hhi 5
    obtain ⟨hb₀, hb₁⟩ := hbound
    norm_num at h3lo h3hi h5hi
    rw [abs_le]
    constructor <;> linarith
  refine ⟨hsin, ?_⟩
  have hcos₀ : 0 ≤ Real.cos tableAngle :=
    Real.cos_nonneg_of_neg_pi_div_two_le_of_le (by linarith) (by linarith [Real.pi_gt_three])
  have hsq := Real.sin_sq_add_cos_sq tableAngle
  obtain ⟨hs₀, hs₁⟩ := abs_le.1 hsin
  rw [abs_le]
  constructor
  · have : Real.cos tableAngle ≤ 1099180475430 / 2 ^ 40 + 0.1 / 10 ^ 10 := by
      refine le_of_sq_le_sq ?_ (by norm_num)
      nlinarith
    linarith
  · have : 1099180475430 / 2 ^ 40 - 0.1 / 10 ^ 10 ≤ Real.cos tableAngle := by
      refine le_of_sq_le_sq ?_ hcos₀
      nlinarith
    linarith

/-- The first turn, scaled to the unit disk. -/
noncomputable def unitTurn : ℂ := ⟨1099180475430 / 2 ^ 40, 26983366120 / 2 ^ 40⟩

theorem toComplex_firstTurn : toComplex firstTurn = unitTurn * ((2 ^ 40 : ℝ) : ℂ) := by
  apply Complex.ext
  · rw [Complex.re_mul_ofReal]
    norm_num [toComplex, firstTurn, unitTurn]
  · rw [Complex.im_mul_ofReal]
    norm_num [toComplex, firstTurn, unitTurn]

theorem turnTo_snd (j : Nat) : ((turnTo j).2 : ℝ) = (unitTurn ^ j).im * (2 ^ 40) ^ j := by
  have h := toComplex_turnTo j
  rw [toComplex_firstTurn, mul_pow, ← Complex.ofReal_pow] at h
  rw [← Complex.im_mul_ofReal, ← h, toComplex]

theorem norm_unitTurn_le : ‖unitTurn‖ ≤ 1 := by
  rw [← sq_le_one_iff₀ (norm_nonneg _), Complex.sq_norm, Complex.normSq_apply, unitTurn]
  norm_num

/-- The computed turn gives the sine of its table point. -/
theorem turnTo_near {j : Nat} (hj : j ≤ 256) :
    |((turnTo j).2 : ℝ) / (2 ^ 40) ^ j - Real.sin (j * tableAngle)| ≤ 6 / 10 ^ 8 := by
  obtain ⟨hs, hc⟩ := firstTurn_near
  have hdist : ‖unitTurn - Complex.exp (tableAngle * Complex.I)‖ ≤ 1.8 / 10 ^ 10 := by
    refine (Complex.norm_le_abs_re_add_abs_im _).trans ?_
    rw [Complex.sub_re, Complex.sub_im, Complex.exp_ofReal_mul_I_re, Complex.exp_ofReal_mul_I_im, unitTurn]
    linarith
  have hpow := norm_pow_sub_pow_le norm_unitTurn_le (Complex.norm_exp_ofReal_mul_I tableAngle).le j
  have hexp : Complex.exp (tableAngle * Complex.I) ^ j = Complex.exp ((j * tableAngle : ℝ) * Complex.I) := by
    rw [← Complex.exp_nat_mul]
    push_cast
    ring_nf
  have him : (unitTurn ^ j - Complex.exp (tableAngle * Complex.I) ^ j).im =
      ((turnTo j).2 : ℝ) / (2 ^ 40) ^ j - Real.sin (j * tableAngle) := by
    rw [Complex.sub_im, hexp, Complex.exp_ofReal_mul_I_im, turnTo_snd, mul_div_cancel_right₀ _ (by positivity)]
  have hj' : (j : ℝ) ≤ 256 := by exact_mod_cast hj
  rw [← him]
  calc _ ≤ ‖unitTurn ^ j - Complex.exp (tableAngle * Complex.I) ^ j‖ := Complex.abs_im_le_norm _
    _ ≤ j * ‖unitTurn - Complex.exp (tableAngle * Complex.I)‖ := hpow
    _ ≤ 256 * (1.8 / 10 ^ 10) := by gcongr
    _ ≤ 6 / 10 ^ 8 := by norm_num

/-! ### The table's own errors -/

/-- How far entry `j` of `SIN_TAB` lies above its sine. -/
noncomputable def sineError (j : Nat) : ℝ := sinTab j + 2 ^ 14 * Real.sin (j * tableAngle)

/-- The error in thousandths, as computed from the turns, its floor taken. -/
def sineErrorFloor (j : Nat) : Int :=
  1000 * (sinTab j * ((2 ^ 40) ^ j : Nat) + 2 ^ 14 * (turnTo j).2) / ((2 ^ 40) ^ j : Nat)

theorem sineError_near {j : Nat} (hj : j ≤ 256) :
    (sineErrorFloor j : ℝ) / 1000 - 1 / 1000 ≤ sineError j ∧
      sineError j ≤ ((sineErrorFloor j : ℝ) + 1) / 1000 + 1 / 1000 := by
  have hden : (0 : Int) < ((2 ^ 40) ^ j : Nat) := by positivity
  have hlo := Int.ediv_mul_le (1000 * (sinTab j * ((2 ^ 40) ^ j : Nat) + 2 ^ 14 * (turnTo j).2)) hden.ne'
  have hhi := (Int.lt_ediv_add_one_mul_self (1000 * (sinTab j * ((2 ^ 40) ^ j : Nat) + 2 ^ 14 * (turnTo j).2)) hden).le
  rw [← sineErrorFloor] at hlo hhi
  have hturn : ((turnTo j).2 : ℝ) = (turnTo j).2 / (2 ^ 40) ^ j * (2 ^ 40) ^ j :=
    (div_mul_cancel₀ _ (by positivity)).symm
  have hlo' : (sineErrorFloor j : ℝ) * (2 ^ 40) ^ j ≤ 1000 * (sinTab j * (2 ^ 40) ^ j + 2 ^ 14 * (turnTo j).2) := by
    exact_mod_cast hlo
  have hhi' : 1000 * ((sinTab j : ℝ) * (2 ^ 40) ^ j + 2 ^ 14 * (turnTo j).2) ≤ (sineErrorFloor j + 1) * (2 ^ 40) ^ j := by
    exact_mod_cast hhi
  obtain ⟨hn₀, hn₁⟩ := abs_le.1 (turnTo_near hj)
  rw [hturn] at hlo' hhi'
  generalize ((turnTo j).2 : ℝ) / (2 ^ 40) ^ j = v at *
  have hpos : (0 : ℝ) < (2 ^ 40) ^ j := by positivity
  have hlo'' : (sineErrorFloor j : ℝ) ≤ 1000 * (sinTab j + 2 ^ 14 * v) := le_of_mul_le_mul_right (by linarith) hpos
  have hhi'' : 1000 * ((sinTab j : ℝ) + 2 ^ 14 * v) ≤ sineErrorFloor j + 1 := le_of_mul_le_mul_right (by linarith) hpos
  unfold sineError
  constructor <;> linarith

/-- `a` and `b` outweigh a sagitta of 0.3016 of the greater entry of the segment (all in thousandths). -/
abbrev Outweighs (a b : Int) (top : Int) : Prop :=
  0 < a ∧ 0 < b ∧ (3016 * top - 10000 * (a + b)) * (a + b) ≤ 40000 * (a * b)

/-- Every segment: both errors are about half a unit at most, and with the room the bound leaves they outweigh. -/
theorem sinTab_errors : ∀ i : Nat, i < 256 →
    -510 ≤ min (sineErrorFloor i) (sineErrorFloor (i + 1)) ∧ max (sineErrorFloor i) (sineErrorFloor (i + 1)) ≤ 510 ∧
    Outweighs (sineErrorFloor i + 1455) (sineErrorFloor (i + 1) + 1455)
      (max (max (sinTab i) (sinTab ((i : Int) + 1))) 0 + 1) :=
  forall_lt_of_digits 16 16 (by decide)

/-- Errors that outweigh the sagitta at the ends of a segment outweigh it all along. -/
theorem sagitta_le_of_outweighs {a b top : Int} (h : Outweighs a b top) {s : ℝ} (hs₀ : 0 ≤ s) (hs₁ : s ≤ 1) :
    0.3016 * top * (s * (1 - s)) ≤ (1 - s) * a + s * b := by
  obtain ⟨ha, hb, hab⟩ := h
  have ha' : (0 : ℝ) < a := by exact_mod_cast ha
  have hb' : (0 : ℝ) < b := by exact_mod_cast hb
  have hab' : (3016 * (top : ℝ) - 10000 * (a + b)) * (a + b) ≤ 40000 * (a * b) := by exact_mod_cast hab
  have hs₂ : 0 ≤ s * (1 - s) := mul_nonneg hs₀ (by linarith)
  have hscaled := mul_le_mul_of_nonneg_right hab' hs₂
  have hsquares : (((a : ℝ) + b) ^ 2 + 4 * (a * b)) * (s * (1 - s)) ≤ (a + b) * ((1 - s) * a + s * b) := by
    have hprod := mul_nonneg (sq_nonneg (1 - 2 * s)) (mul_pos ha' hb').le
    have hsq := sq_nonneg ((b - a : ℝ) - (a + b) * (1 - 2 * s))
    linarith
  refine le_of_mul_le_mul_left ?_ (add_pos ha' hb')
  linarith

/-! ### The interpolation -/

theorem sineError_succ (i : Nat) :
    sineError (i + 1) = sinTab ((i : Int) + 1) + 2 ^ 14 * Real.sin (i * tableAngle + tableAngle) := by
  show (sinTab ((i : Int) + 1) : ℝ) + 2 ^ 14 * Real.sin ((i + 1 : Nat) * tableAngle) = _
  rw [Nat.cast_add_one, add_one_mul]

/-- The chord of `SIN_TAB` in segment `i` above the sine, before the floor. -/
noncomputable def chordError (i : Nat) (s : ℝ) : ℝ :=
  (1 - s) * sinTab i + s * sinTab ((i : Int) + 1) + 2 ^ 14 * Real.sin (i * tableAngle + s * tableAngle)

/-- It is the chord of the table's own errors and the excesses of the sines. -/
theorem chordError_eq (i : Nat) (s : ℝ) : chordError i s = (1 - s) * sineError i + s * sineError (i + 1) +
    2 ^ 14 * (arcExcess (1 - s) * Real.sin (i * tableAngle) + arcExcess s * Real.sin (i * tableAngle + tableAngle)) := by
  rw [chordError, sineError_succ, sineError, sin_segment]
  ring

theorem le_chordError {i : Nat} (hi : i < 256) {s : ℝ} (hs₀ : 0 ≤ s) (hs₁ : s ≤ 1) : -1.4576 ≤ chordError i s := by
  obtain ⟨hlow, -, hout⟩ := sinTab_errors i hi
  obtain ⟨hlow₀, hlow₁⟩ := le_min_iff.1 hlow
  obtain ⟨top, htop⟩ : ∃ top, top = max (max (sinTab i) (sinTab ((i : Int) + 1))) 0 + 1 := ⟨_, rfl⟩
  have hsagitta := sagitta_le_of_outweighs hout hs₀ hs₁
  rw [← htop] at hsagitta
  push_cast at hsagitta
  have hthis := (sineError_near (show i ≤ 256 by omega)).1
  have hnext := (sineError_near (show i + 1 ≤ 256 by omega)).1
  have hlow₀' : (-510 : ℝ) ≤ sineErrorFloor i := by exact_mod_cast hlow₀
  have hlow₁' : (-510 : ℝ) ≤ sineErrorFloor (i + 1) := by exact_mod_cast hlow₁
  have htop₀ : (0 : ℝ) ≤ top := by exact_mod_cast (show 0 ≤ top by omega)
  have htop₁ : (sinTab i : ℝ) + 1 ≤ top := by exact_mod_cast (show sinTab i + 1 ≤ top by omega)
  have htop₂ : (sinTab ((i : Int) + 1) : ℝ) + 1 ≤ top := by
    exact_mod_cast (show sinTab ((i : Int) + 1) + 1 ≤ top by omega)
  have hcrest₁ : -top ≤ 2 ^ 14 * Real.sin (i * tableAngle) := by
    rw [sineError] at hthis
    linarith
  have hcrest₂ : -top ≤ 2 ^ 14 * Real.sin (i * tableAngle + tableAngle) := by
    rw [sineError_succ] at hnext
    linarith
  have hs₂ : 0 ≤ 1 - s := by linarith
  have hleft := mul_le_mul_of_nonneg_left hcrest₁ (arcExcess_nonneg hs₂ (by linarith))
  have hright := mul_le_mul_of_nonneg_left hcrest₂ (arcExcess_nonneg hs₀ hs₁)
  have hexcess := mul_le_mul_of_nonneg_right (arcExcess_add_le hs₀ hs₁) htop₀
  have hthis' := mul_le_mul_of_nonneg_left hthis hs₂
  have hnext' := mul_le_mul_of_nonneg_left hnext hs₀
  rw [chordError_eq]
  linarith

theorem chordError_le {i : Nat} (hi : i < 256) {s : ℝ} (hs₀ : 0 ≤ s) (hs₁ : s ≤ 1) : chordError i s ≤ 2.4576 := by
  obtain ⟨-, hhigh, -⟩ := sinTab_errors i hi
  obtain ⟨hhigh₀, hhigh₁⟩ := max_le_iff.1 hhigh
  have hhigh₀' : (sineErrorFloor i : ℝ) ≤ 510 := by exact_mod_cast hhigh₀
  have hhigh₁' : (sineErrorFloor (i + 1) : ℝ) ≤ 510 := by exact_mod_cast hhigh₁
  have hthis : sineError i ≤ 0.512 := by linarith [(sineError_near (show i ≤ 256 by omega)).2]
  have hnext : sineError (i + 1) ≤ 0.512 := by linarith [(sineError_near (show i + 1 ≤ 256 by omega)).2]
  have hs₂ : 0 ≤ 1 - s := by linarith
  have hleft := mul_le_mul_of_nonneg_left (Real.sin_le_one (i * tableAngle)) (arcExcess_nonneg hs₂ (by linarith))
  have hright := mul_le_mul_of_nonneg_left (Real.sin_le_one (i * tableAngle + tableAngle)) (arcExcess_nonneg hs₀ hs₁)
  have hexcess := arcExcess_add_le hs₀ hs₁
  have hmiddle := sq_nonneg (1 - 2 * s)
  have hthis' := mul_le_mul_of_nonneg_left hthis hs₂
  have hnext' := mul_le_mul_of_nonneg_left hnext hs₀
  rw [chordError_eq]
  linarith

/-- Where `SINPI` reads the table, and the sine it stands for. -/
theorem sinpi_eq_lerp (x : Int) : ∃ i : Nat, i < 256 ∧
    sinpi x = sinTab i + asr ((sinTab ((i : Int) + 1) - sinTab i) * (x % 2 ^ 21)) 21 ∧
    Real.sin (Real.pi * ((x : ℝ) / 2 ^ 28)) = -Real.sin (i * tableAngle + segmentFraction x * tableAngle) := by
  obtain ⟨i, hi⟩ := Int.eq_ofNat_of_zero_le (show 0 ≤ (x + 2 ^ 28) % 2 ^ 29 / 2 ^ 21 by omega)
  have hfrac : (x + 2 ^ 28) % 2 ^ 29 % 2 ^ 21 = x % 2 ^ 21 := by omega
  refine ⟨i, by omega, by rw [← hi, ← hfrac]; rfl, ?_⟩
  have hsplit : x = (x + 2 ^ 28) / 2 ^ 29 * 2 ^ 29 + i * 2 ^ 21 + x % 2 ^ 21 - 2 ^ 28 := by omega
  generalize (x + 2 ^ 28) / 2 ^ 29 = k at hsplit
  have hcast : (x : ℝ) = k * 2 ^ 29 + i * 2 ^ 21 + (x % 2 ^ 21 : Int) - 2 ^ 28 := by exact_mod_cast hsplit
  have hangle : Real.pi * ((x : ℝ) / 2 ^ 28) =
      i * tableAngle + segmentFraction x * tableAngle - Real.pi + k * (2 * Real.pi) := by
    rw [hcast, segmentFraction, tableAngle]
    ring
  rw [hangle, Real.sin_add_int_mul_two_pi, Real.sin_sub_pi]

theorem sinpi_near (x : Int) : |(sinpi x : ℝ) - 2 ^ 14 * Real.sin (Real.pi * ((x : ℝ) / 2 ^ 28))| ≤ 2.4576 := by
  obtain ⟨i, hi, hread, hsin⟩ := sinpi_eq_lerp x
  obtain ⟨hs₀, hs₁⟩ := segmentFraction_bounds x
  obtain ⟨hlo, hhi⟩ := lerp_floor (sinTab i) (sinTab ((i : Int) + 1)) x
  have hchord₀ := le_chordError hi hs₀ hs₁
  have hchord₁ := chordError_le hi hs₀ hs₁
  rw [chordError] at hchord₀ hchord₁
  rw [← hread] at hlo hhi
  rw [hsin, abs_le]
  constructor <;> linarith

theorem exec_sinpi (s : State) : exec .sinpi s = .next (mathResult (sinpi (s32 s.mathArg)) 0 s) := rfl

/-- Settles O52. -/
theorem sinpiIsAccurate : Obligations.SinpiIsAccurate := by
  intro s
  refine ⟨_, exec_sinpi s, ?_⟩
  obtain ⟨hlo, hhi⟩ := abs_le.1 (sinpi_near (s32 s.mathArg))
  have hsin₀ := Real.neg_one_le_sin (Real.pi * ((s32 s.mathArg : ℝ) / 2 ^ 28))
  have hsin₁ := Real.sin_le_one (Real.pi * ((s32 s.mathArg : ℝ) / 2 ^ 28))
  have hrange₀ : -2147483648 ≤ sinpi (s32 s.mathArg) := by
    have : (-2147483648 : ℝ) ≤ sinpi (s32 s.mathArg) := by linarith
    exact_mod_cast this
  have hrange₁ : sinpi (s32 s.mathArg) ≤ 2147483647 := by
    have : (sinpi (s32 s.mathArg) : ℝ) ≤ 2147483647 := by linarith
    exact_mod_cast this
  have hres : (to32 (sinpi (s32 s.mathArg))).toInt = sinpi (s32 s.mathArg) := s32_to32 _ hrange₀ hrange₁
  show |((to32 (sinpi (s32 s.mathArg))).toInt : ℝ) / 2 ^ 14 - Real.sin (Real.pi * ((s32 s.mathArg : ℝ) / 2 ^ 28))| ≤ _
  rw [hres, abs_le]
  constructor <;> linarith

end Sys2Proof.Proofs
end

section
/-! Decoding and encoding of command words: O1, O2, O3, and the commands that do not execute: O22 (`30_encoding.md` R91 to
R96, `45_system.md` R220). -/

namespace Sys2Proof.Proofs

open Sys2Proof.Machine Sys2Proof.Claims

/-! ### The fields of a word as numbers -/

/-- Bits 23:16 of a word as a number. -/
theorem unitNo_eq_unitField (c : Word) : unitNo c = (unitField c).toNat := by
  rw [unitNo, unitField, BitVec.extractLsb'_toNat, Nat.shiftRight_eq_div_pow]

/-- Bits 15:0 of a word as a number. -/
theorem immOf_eq_immField (c : Word) : immOf c = (immField c).toNat := by
  rw [immOf, immField, BitVec.extractLsb'_toNat, Nat.shiftRight_zero]

theorem unitNo_eq_zero_iff (c : Word) : unitNo c = 0 ↔ unitField c = 0 := by
  rw [unitNo_eq_unitField, BitVec.toNat_eq]
  rfl

theorem immOf_eq_zero_iff (c : Word) : immOf c = 0 ↔ immField c = 0 := by
  rw [immOf_eq_immField, BitVec.toNat_eq]
  rfl

/-- The reserved bits of a format-P immediate are zero exactly when only `sync` is left (R91). -/
theorem reservedP_eq_zero_iff (imm : BitVec 16) : imm.extractLsb' 1 15 = 0 ↔ imm.toNat < 2 := by
  have himm : imm.toNat < 2 ^ 16 := imm.isLt
  rw [BitVec.toNat_eq, BitVec.extractLsb'_toNat, Nat.shiftRight_eq_div_pow]
  show imm.toNat / 2 ^ 1 % 2 ^ 15 = 0 ↔ imm.toNat < 2
  omega

/-- A format-P immediate without reserved bits is its `sync` bit. -/
theorem eq_sync_of_toNat_lt_two {imm : BitVec 16} (h : imm.toNat < 2) : imm = if imm.getLsbD 0 then 1 else 0 := by
  obtain h₀ | h₁ : imm.toNat = 0 ∨ imm.toNat = 1 := by omega
  · obtain rfl : imm = 0 := BitVec.eq_of_toNat_eq h₀
    rfl
  · obtain rfl : imm = 1 := BitVec.eq_of_toNat_eq h₁
    rfl

theorem getLsbD_zero_of_toNat_lt_two {imm : BitVec 16} (h : imm.toNat < 2) :
    imm.getLsbD 0 = decide (imm.toNat = 1) := by
  rw [BitVec.getLsbD, Nat.testBit_zero, Nat.mod_eq_of_lt h]

/-! ### A row of the decoder is a row of the encoder (R93) -/

theorem encode_of_rowN {opc : BitVec 8} {i : Instr} (h : opRow opc = some (.n i)) : encode i = commandWord opc 0 0 := by
  unfold opRow at h
  split at h <;> cases h <;> rfl

theorem encode_of_rowU {opc : BitVec 8} {make : UnitIndex → Instr} (h : opRow opc = some (.u make)) (u : UnitIndex) :
    encode (make u) = commandWord opc u 0 := by
  unfold opRow at h
  split at h <;> cases h <;> rfl

theorem encode_of_rowP {opc : BitVec 8} {make : Bool → Instr} (h : opRow opc = some (.p make)) (sync : Bool) :
    encode (make sync) = commandWord opc 0 (if sync then 1 else 0) := by
  unfold opRow at h
  split at h <;> cases h
  rfl

/-- All that decoding can answer: the word is illegal, or it is the word of a command and only the unit check is left. -/
theorem decode_cases (c : Word) :
    (∃ why, decode c = .illegal why) ∨ ∃ i, encode i = c ∧ decode c = checkUnit i := by
  cases h : opRow (opcField c) with
  | none => exact .inl ⟨_, decode_of_unassigned c h⟩
  | some row =>
    cases row with
    | n i =>
      by_cases hres : unitField c ≠ 0 ∨ immField c ≠ 0
      · exact .inl ⟨_, by rw [decode_of_rowN c i h, if_pos hres]⟩
      · obtain ⟨hunit, himm⟩ : unitField c = 0 ∧ immField c = 0 := by simpa using hres
        refine .inr ⟨i, ?_, by rw [decode_of_rowN c i h, if_neg hres]⟩
        calc encode i = commandWord (opcField c) 0 0 := encode_of_rowN h
          _ = commandWord (opcField c) (unitField c) (immField c) := by rw [hunit, himm]
          _ = c := commandWord_fields c
    | u make =>
      by_cases hres : immField c ≠ 0
      · exact .inl ⟨_, by rw [decode_of_rowU c make h, if_pos hres]⟩
      · refine .inr ⟨make (unitField c), ?_, by rw [decode_of_rowU c make h, if_neg hres]⟩
        calc encode (make (unitField c)) = commandWord (opcField c) (unitField c) 0 := encode_of_rowU h _
          _ = commandWord (opcField c) (unitField c) (immField c) := by rw [not_not.1 hres]
          _ = c := commandWord_fields c
    | p make =>
      by_cases hres : unitField c ≠ 0 ∨ (immField c).extractLsb' 1 15 ≠ 0
      · exact .inl ⟨_, by rw [decode_of_rowP c make h, if_pos hres]⟩
      · obtain ⟨hunit, himm⟩ : unitField c = 0 ∧ (immField c).extractLsb' 1 15 = 0 := by simpa using hres
        have hsync := eq_sync_of_toNat_lt_two ((reservedP_eq_zero_iff _).1 himm)
        refine .inr ⟨make ((immField c).getLsbD 0), ?_, by rw [decode_of_rowP c make h, if_neg hres]⟩
        calc encode (make ((immField c).getLsbD 0))
            = commandWord (opcField c) 0 (if (immField c).getLsbD 0 then 1 else 0) := encode_of_rowP h _
          _ = commandWord (opcField c) (unitField c) (immField c) := by rw [hunit, ← hsync]
          _ = c := commandWord_fields c

theorem checkUnit_of_illFormed {i : Instr} (h : i.wellFormed = false) : checkUnit i = .badUnit i := by
  simp [checkUnit, h]

theorem checkUnit_of_wellFormed {i : Instr} (h : i.wellFormed = true) : checkUnit i = .command i := if_pos h

theorem checkUnit_eq_command {i j : Instr} (h : checkUnit i = .command j) : i = j ∧ i.wellFormed = true := by
  obtain ⟨hw, hc⟩ | ⟨-, hc⟩ := checkUnit_cases i
  · exact ⟨by simpa [hc] using h, hw⟩
  · simp [hc] at h

theorem checkUnit_eq_badUnit {i j : Instr} (h : checkUnit i = .badUnit j) : i = j ∧ i.wellFormed = false := by
  obtain ⟨-, hc⟩ | ⟨hw, hc⟩ := checkUnit_cases i
  · simp [hc] at h
  · exact ⟨by simpa [hc] using h, hw⟩

/-- A word that decodes to a command is that command's word. -/
theorem encode_of_decode_command {c : Word} {i : Instr} (h : decode c = .command i) :
    i.wellFormed = true ∧ encode i = c := by
  obtain ⟨why, hc⟩ | ⟨j, henc, hc⟩ := decode_cases c
  · simp [hc] at h
  · obtain ⟨rfl, hw⟩ := checkUnit_eq_command (hc.symm.trans h)
    exact ⟨hw, henc⟩

/-- A word that decodes to a bad unit is the word of the ill-formed command. -/
theorem encode_of_decode_badUnit {c : Word} {i : Instr} (h : decode c = .badUnit i) :
    i.wellFormed = false ∧ encode i = c := by
  obtain ⟨why, hc⟩ | ⟨j, henc, hc⟩ := decode_cases c
  · simp [hc] at h
  · obtain ⟨rfl, hw⟩ := checkUnit_eq_badUnit (hc.symm.trans h)
    exact ⟨hw, henc⟩

/-- Settles O2. -/
theorem decodeAndEncodeAgree : Obligations.DecodeAndEncodeAgree :=
  ⟨decode_encode_of_wellFormed, fun i h => (decode_encode i).trans (checkUnit_of_illFormed h),
    fun _ _ => encode_of_decode_command, fun _ _ => encode_of_decode_badUnit⟩

/-! ### The opcode map by its numbers (R93, R96) -/

theorem opcField_eq_of_opcOf {c : Word} {n : Nat} (h : opcOf c = n) : opcField c = BitVec.ofNat 8 n := by
  rw [← h, opcOf_eq_opcField, BitVec.ofNat_toNat, BitVec.setWidth_eq]

theorem opRow_formatN : ∀ row ∈ formatN, opRow (BitVec.ofNat 8 row.1) = some (.n row.2) := by
  simp [formatN, opRow]

theorem opRow_formatU : ∀ row ∈ formatU, opRow (BitVec.ofNat 8 row.1) = some (.u row.2.2) := by
  simp [formatU, opRow]

theorem wellFormed_formatN : ∀ row ∈ formatN, row.2.wellFormed = true := by decide

theorem unitOf_formatU (u : UnitIndex) : ∀ row ∈ formatU, (row.2.2 u).unitOf = some (u, row.2.1) := by
  simp [formatU, Instr.unitOf, Config.nOsc, Config.nEnv, Config.nLfo]

/-- A code without a row is not in the lists: the codes are compared one by one. -/
theorem opRow_isSome_iff (opc : BitVec 8) : (opRow opc).isSome = true ↔ opc.toNat ∈ assigned := by
  revert opc
  decide

theorem checkUnit_of_unitOf {i : Instr} {u : UnitIndex} {count : Nat} (h : i.unitOf = some (u, count)) :
    checkUnit i = if u.toNat < count then .command i else .badUnit i := by
  simp [checkUnit, Instr.wellFormed, h]

theorem decode_of_formatN {c : Word} {row : Nat × Instr} (hrow : row ∈ formatN) (hc : opcOf c = row.1) :
    decode c = if unitNo c = 0 ∧ immOf c = 0 then .command row.2 else .illegal .reservedField := by
  have hop : opRow (opcField c) = some (.n row.2) := by rw [opcField_eq_of_opcOf hc, opRow_formatN row hrow]
  rw [decode_of_rowN c _ hop, checkUnit_of_wellFormed (wellFormed_formatN row hrow)]
  simp only [ne_eq, ← not_and_or, ite_not, unitNo_eq_zero_iff, immOf_eq_zero_iff]

theorem decode_of_formatU {c : Word} {row : Nat × Nat × (UnitIndex → Instr)} (hrow : row ∈ formatU)
    (hc : opcOf c = row.1) :
    decode c = if immOf c ≠ 0 then .illegal .reservedField
      else if unitNo c < row.2.1 then .command (row.2.2 (BitVec.ofNat 8 (unitNo c)))
      else .badUnit (row.2.2 (BitVec.ofNat 8 (unitNo c))) := by
  have hop : opRow (opcField c) = some (.u row.2.2) := by rw [opcField_eq_of_opcOf hc, opRow_formatU row hrow]
  have hunit : BitVec.ofNat 8 (unitNo c) = unitField c := by
    rw [unitNo_eq_unitField, BitVec.ofNat_toNat, BitVec.setWidth_eq]
  rw [hunit, unitNo_eq_unitField, decode_of_rowU c _ hop, checkUnit_of_unitOf (unitOf_formatU _ row hrow)]
  simp only [ne_eq, immOf_eq_zero_iff]

theorem decode_of_opcPair {c : Word} (hc : opcOf c = opcPair) :
    decode c = if unitNo c = 0 ∧ immOf c < 2 then .command (.oscPair (decide (immOf c = 1)))
      else .illegal .reservedField := by
  have hop : opRow (opcField c) = some (.p .oscPair) := by rw [opcField_eq_of_opcOf hc]; rfl
  rw [decode_of_rowP c _ hop]
  simp only [ne_eq, ← not_and_or, ite_not, reservedP_eq_zero_iff, ← unitNo_eq_zero_iff, ← immOf_eq_immField]
  refine if_ctx_congr Iff.rfl (fun hgood => ?_) fun _ => rfl
  obtain ⟨-, himm⟩ := hgood
  rw [immOf_eq_immField] at himm ⊢
  rw [getLsbD_zero_of_toNat_lt_two himm]
  rfl

theorem decode_of_not_assigned {c : Word} (hc : opcOf c ∉ assigned) : decode c = .illegal .unassigned := by
  rw [opcOf_eq_opcField, ← opRow_isSome_iff, Bool.not_eq_true, Option.isSome_eq_false_iff, Option.isNone_iff_eq_none] at hc
  exact decode_of_unassigned c hc

/-! ### What a word that is no command records (R96) -/

theorem perform_of_illegal {c : Word} {why : Illegal} (h : decode c = .illegal why) (s : State) :
    perform c s = .next (report .cmd c s) := by
  rw [perform, h]

theorem perform_of_badUnit {c : Word} {i : Instr} (h : decode c = .badUnit i) (s : State) :
    perform c s = .next (report .unit c s) := by
  rw [perform, h]

theorem stepRecords_of_illegal {s : State} {c : Word} {rest : List HostEvent} (hs : s.host = .wr cmdNum c :: rest)
    {why : Illegal} (h : decode c = .illegal why) : StepRecords 2 9 c s { s with host := rest } :=
  stepRecords_of_step_eq (e := .cmd) ((step_of_wr hs).trans (perform_of_illegal h _))

theorem stepRecords_of_badUnit {s : State} {c : Word} {rest : List HostEvent} (hs : s.host = .wr cmdNum c :: rest)
    {i : Instr} (h : decode c = .badUnit i) : StepRecords 3 10 c s { s with host := rest } :=
  stepRecords_of_step_eq (e := .unit) ((step_of_wr hs).trans (perform_of_badUnit h _))

/-- Settles O1. -/
theorem decodeFollowsTheOpcodeMap : Obligations.DecodeFollowsTheOpcodeMap := fun _ =>
  ⟨fun _ => decode_of_formatN, fun _ => decode_of_formatU, decode_of_opcPair, decode_of_not_assigned,
    fun _ _ hs => ⟨fun _ => stepRecords_of_illegal hs, fun _ => stepRecords_of_badUnit hs⟩⟩

/-! ### The commands that do not execute (R92, R220) -/

/-- A command that names a unit makes the unit check first. -/
theorem exec_eq_onUnit {i : Instr} {u : UnitIndex} {count : Nat} (h : i.unitOf = some (u, count)) :
    ∃ body, ∀ s, exec i s = .next (onUnit count i u body s) := by
  cases i <;> cases h <;> exact ⟨_, fun _ => rfl⟩

theorem exec_of_illFormed {i : Instr} (h : i.wellFormed = false) (s : State) :
    exec i s = .next (report .unit (encode i) s) := by
  cases hu : i.unitOf with
  | none => simp [Instr.wellFormed, hu] at h
  | some named =>
    obtain ⟨u, count⟩ := named
    obtain ⟨body, hx⟩ := exec_eq_onUnit hu
    have hge : count ≤ u.toNat := by simpa [Instr.wellFormed, hu] using h
    rw [hx, onUnit_of_ge i u body s hge]

/-- A per-sample command whose unit exists makes the context check and nothing before it. -/
theorem exec_eq_inContext {i : Instr} (hw : i.wellFormed = true) (hn : i.needsContext = true) :
    ∃ body, ∀ s, exec i s = .next (inContext i body s) := by
  cases i with
  | oscNext u => exact ⟨_, fun s => congrArg _ (onUnit_of_lt _ u _ s (of_decide_eq_true hw))⟩
  | oscPair sync => exact ⟨_, fun _ => rfl⟩
  | filtNext => exact ⟨_, fun _ => rfl⟩
  | envNext u => exact ⟨_, fun s => congrArg _ (onUnit_of_lt _ u _ s (of_decide_eq_true hw))⟩
  | lfoNext u => exact ⟨_, fun s => congrArg _ (onUnit_of_lt _ u _ s (of_decide_eq_true hw))⟩
  | _ => cases hn

theorem exec_without_context {i : Instr} (hw : i.wellFormed = true) (hn : i.needsContext = true) {s : State}
    (hc : ctxValid s.status = false) : exec i s = .next (report .noCtx (encode i) s) := by
  obtain ⟨body, hx⟩ := exec_eq_inContext hw hn
  rw [hx, inContext_of_invalid i body s hc]

/-- Settles O22. -/
theorem commandsThatDoNotExecute : Obligations.CommandsThatDoNotExecute :=
  ⟨fun i s hw => ⟨_, exec_of_illFormed hw s, recorded_report .unit (encode i) s⟩,
    fun i s hw hmem hc =>
      ⟨_, exec_without_context hw ((opcOf_encode_mem_perSample i).1 hmem) hc, recorded_report .noCtx (encode i) s⟩⟩

/-! ### The listed words -/

/-- Settles O3: each listed word is the word of a well-formed command. -/
theorem listedWordsDecode : Obligations.ListedWordsDecode := by
  intro row hrow
  have hword : row.2.wellFormed = true ∧ encode row.2 = row.1 := by
    revert row
    decide
  obtain ⟨hw, henc⟩ := hword
  rw [← henc]
  exact decode_encode_of_wellFormed _ hw

end Sys2Proof.Proofs
end

section
/-! The rules' second transcription: each function of the math library (`40_math.md` R121 to R128) equals the one that the
statements write in plain integer arithmetic. -/

namespace Sys2Proof.Proofs

open Sys2Proof.Machine Sys2Proof.Claims

theorem clamp_eq_sat {lo hi : Int} (h : lo ≤ hi) (v : Int) : clamp v lo hi = sat lo hi v := by
  unfold clamp sat
  split
  · omega
  · split <;> omega

theorem satS32_eq_sat (v : Int) : satS32 v = sat (-2 ^ 31) (2 ^ 31 - 1) v := clamp_eq_sat (by decide) v

theorem satU32_eq_sat (v : Int) : satU32 v = sat 0 (2 ^ 32 - 1) v := clamp_eq_sat (by decide) v

/-- The entry after an index in range. -/
theorem romRead_add_one (rom : List Int) {i : Int} (h : 0 ≤ i) : romRead rom (i + 1) = rom.getD (i.toNat + 1) 0 := by
  rw [romRead, Int.toNat_add h zero_le_one, Int.toNat_one]

theorem sinpi_eq_sine (x : Int) : sinpi x = sine x := by
  have hi : 0 ≤ sineArg x / 2 ^ 21 := by unfold sineArg; omega
  show romRead sinRom _ + asr ((romRead sinRom (sineArg x / 2 ^ 21 + 1) - _) * _) 21 = _
  rw [romRead_add_one sinRom hi]
  rfl

theorem tanR_eq_sat (x : Int) : tanR x = sat (-2 ^ 31) (2 ^ 31 - 1) (tanPoly x) := satS32_eq_sat _

theorem exp2Mantissa_eq_pow2Mantissa (x : Int) : exp2Mantissa (x % 2 ^ 27) = pow2Mantissa x := by
  have hj : 0 ≤ x % 2 ^ 27 / 2 ^ 21 := by omega
  show romRead exp2Rom _ + asr ((romRead exp2Rom (x % 2 ^ 27 / 2 ^ 21 + 1) - _) * _) 21 = _
  rw [romRead_add_one exp2Rom hj]
  rfl

theorem exp2_eq_pow2 (x : Int) : exp2 x = pow2 x := by
  have hsh : 0 ≤ 12 - x / 2 ^ 27 ↔ x / 2 ^ 27 ≤ 12 := by omega
  simp only [exp2, pow2, exp2Mantissa_eq_pow2Mantissa, satU32_eq_sat, asr, shl, hsh, neg_sub]

theorem n2f_eq_noteHz (n : Int) : n2f n = noteHz n := exp2_eq_pow2 _

theorem rcpm_eq_recip {f : Int} (h : 0 ≤ f) : rcpm f = recip f := by
  have hj : 0 ≤ f / 2 ^ 9 := by omega
  show romRead rcpRom _ + asr ((romRead rcpRom (f / 2 ^ 9 + 1) - _) * _) 9 = _
  rw [romRead_add_one rcpRom hj]
  rfl

end Sys2Proof.Proofs
end

section
/-! The MATH commands' registers: O24 (`40_math.md` R120). -/

namespace Sys2Proof.Proofs

open Sys2Proof.Machine Sys2Proof.Claims

/-- The commands that list a register of the MATH unit as written are the seven. -/
theorem mem_mathCommands_of_writes {i : Instr} {r : Reg} (hr : r = .mathArg ∨ r = .mathRes ∨ r = .mathExp)
    (h : Writes i r) : i ∈ mathCommands := by
  cases i with
  | sinpi | cospi | tan | exp2 | rcp1p | rcp1m | n2f => decide
  | _ => obtain rfl | rfl | rfl := hr <;> exact False.elim h

/-- Each of the seven stores two functions of the argument word; only the reciprocals have an exponent. -/
theorem exec_of_mem_mathCommands {i : Instr} (hi : i ∈ mathCommands) : ∃ res exp : Word → Int,
    (∀ s, exec i s = .next (mathResult (res s.mathArg) (exp s.mathArg) s)) ∧
      (i ≠ .rcp1p → i ≠ .rcp1m → ∀ a, exp a = 0) := by
  cases i with
  | sinpi => exact ⟨fun a => sinpi (s32 a), fun _ => 0, fun _ => rfl, fun _ _ _ => rfl⟩
  | cospi => exact ⟨fun a => cospi (s32 a), fun _ => 0, fun _ => rfl, fun _ _ _ => rfl⟩
  | tan => exact ⟨fun a => tanR (s32 a), fun _ => 0, fun _ => rfl, fun _ _ _ => rfl⟩
  | exp2 => exact ⟨fun a => exp2 (s32 a), fun _ => 0, fun _ => rfl, fun _ _ _ => rfl⟩
  | n2f => exact ⟨fun a => n2f (u16 (a.extractLsb' 0 16)), fun _ => 0, fun _ => rfl, fun _ _ _ => rfl⟩
  | rcp1p =>
    exact ⟨fun a => (rcp1p (u32 a)).1, fun a => -((rcp1p (u32 a)).2 : Int), fun _ => rfl, fun h => absurd rfl h⟩
  | rcp1m =>
    exact ⟨fun a => (rcp1m (u16 (a.extractLsb' 0 16))).1, fun a => ((rcp1m (u16 (a.extractLsb' 0 16))).2 : Int),
      fun _ => rfl, fun _ h => absurd rfl h⟩
  | _ => exact absurd hi (by simp [mathCommands])

/-- Any other command reports, which is no matter of the MATH unit, or keeps what its rule does not list. -/
theorem readReg_math_of_exec {i : Instr} (hi : i ∉ mathCommands) {s t : State} (hx : exec i s = .next t) {r : Reg}
    (hr : r = .mathArg ∨ r = .mathRes ∨ r = .mathExp) : readReg r t = readReg r s := by
  obtain ⟨e, rfl⟩ | ⟨f, hf, rfl⟩ := exec_next_cases hx
  · obtain rfl | rfl | rfl := hr <;> rfl
  · exact acts_frame hf s fun hw => hi (mem_mathCommands_of_writes hr hw)

/-- Settles O24. -/
theorem mathCommandsUseOnlyTheMathRegisters : Obligations.MathCommandsUseOnlyTheMathRegisters := by
  have hlist : ∀ i, i ∈ [Instr.sinpi, .cospi, .tan, .exp2, .n2f, .rcp1p, .rcp1m] ↔ i ∈ mathCommands := by
    simp only [mathCommands, List.mem_cons, List.not_mem_nil, or_false]
    tauto
  refine ⟨fun i hi => ?_, fun i s t hi hx => ?_⟩
  · obtain ⟨res, exp, hexec, hzero⟩ := exec_of_mem_mathCommands ((hlist i).1 hi)
    exact ⟨fun a => (to32 (res a), to32 (exp a)), hexec, fun hp hm a => congrArg to32 (hzero hp hm a)⟩
  · have hkept := @readReg_math_of_exec i (mt (hlist i).2 hi) s t hx
    exact ⟨hkept (.inl rfl), hkept (.inr (.inl rfl)), hkept (.inr (.inr rfl))⟩

end Sys2Proof.Proofs
end

section
/-! The values of `SINPI` and `COSPI`: O25, O26 (`40_math.md` R121, R122). -/

namespace Sys2Proof.Proofs

open Sys2Proof.Machine Sys2Proof.Claims

/-- `21_rom_tables.md` R80: the sine's table is in s2.14, and its largest magnitude is 1.0. -/
theorem sinTab_bounds : ∀ k : Nat, k < 257 → -16384 ≤ sinTab k ∧ sinTab k ≤ 16384 :=
  fun k hk => forall_lt_of_digits 26 10 (P := fun k => -16384 ≤ sinTab k ∧ sinTab k ≤ 16384) (by decide) k (by omega)

/-- A floored interpolation stays in any interval that holds its two entries. -/
theorem lerp_mem {a b f lo hi : Int} {n : Nat} (ha : lo ≤ a ∧ a ≤ hi) (hb : lo ≤ b ∧ b ≤ hi) (h₀ : 0 ≤ f)
    (h₁ : f < 2 ^ n) : lo ≤ a + asr ((b - a) * f) n ∧ a + asr ((b - a) * f) n ≤ hi := by
  obtain hab | hba := le_total a b
  · obtain ⟨hlo, hhi⟩ := lerp_bounds_up a b f n hab h₀ h₁
    exact ⟨ha.1.trans hlo, hhi.trans hb.2⟩
  · obtain ⟨hlo, hhi⟩ := lerp_bounds_down a b f n hba h₀ h₁
    exact ⟨hb.1.trans hlo, hhi.trans ha.2⟩

theorem sinpi_bounds (x : Int) : -16384 ≤ sinpi x ∧ sinpi x ≤ 16384 := by
  obtain ⟨i, hi, hread, -⟩ := sinpi_eq_lerp x
  rw [hread]
  exact lerp_mem (sinTab_bounds i (by omega)) (sinTab_bounds (i + 1) (by omega)) (by omega) (by omega)

/-- With no fraction of a segment the sine is the entry. -/
theorem sine_of_tablePoint {x : Int} (h : sineArg x % 2 ^ 21 = 0) :
    sine x = sinRom.getD (sineArg x / 2 ^ 21).toNat 0 := by
  simp only [sine, h, Int.mul_zero, Int.zero_ediv, Int.add_zero]

/-- Settles O25. -/
theorem sinpiInterpolatesTheTable : Obligations.SinpiInterpolatesTheTable := by
  intro s
  have hrange := sinpi_bounds s.mathArg.toInt
  rw [sinpi_eq_sine] at hrange
  refine ⟨?_, ?_, hrange, sine_of_tablePoint⟩
  · rw [exec_sinpi, sinpi_eq_sine]
    rfl
  · unfold sineArg
    omega

theorem exec_cospi (s : State) : exec .cospi s = .next (mathResult (sinpi (s32 s.mathArg + 2 ^ 27)) 0 s) := rfl

/-- Settles O26. -/
theorem cospiIsTheShiftedSine : Obligations.CospiIsTheShiftedSine := by
  intro s
  rw [exec_cospi, sinpi_eq_sine]
  rfl

end Sys2Proof.Proofs
end

section
/-! The tangent polynomial: O28, O29 (`40_math.md` R123). Its cube rises with its argument although it is floored twice,
and its floors lose at most 2 against oddness. -/

namespace Sys2Proof.Proofs

open Sys2Proof.Machine Sys2Proof.Claims

theorem exec_tan (s : State) : exec .tan s = .next (mathResult (tanR (s32 s.mathArg)) 0 s) := rfl

/-- Settles O28. -/
theorem tanIsTheSaturatedPolynomial : Obligations.TanIsTheSaturatedPolynomial := by
  intro s
  rw [exec_tan, tanR_eq_sat]
  rfl

/-- `x³` of the polynomial, in s4.28. -/
def tanCube (x : Int) : Int := x * x / 2 ^ 28 * x / 2 ^ 28

theorem tanPoly_eq (x : Int) : tanPoly x = x + tanCube x * 21845 / 2 ^ 16 := rfl

/-- The floored square grows with the magnitude. -/
theorem square_floor_le {x y : Int} (h : |x| ≤ |y|) : x * x / 2 ^ 28 ≤ y * y / 2 ^ 28 :=
  Int.ediv_le_ediv (by positivity) (abs_le_iff_mul_self_le.1 h)

theorem square_floor_nonneg (x : Int) : 0 ≤ x * x / 2 ^ 28 := Int.ediv_nonneg (mul_self_nonneg x) (by positivity)

/-- Beside the sign, the square's floor and the factor both grow with the magnitude. -/
theorem tanCube_mono {x y : Int} (h : x ≤ y) : tanCube x ≤ tanCube y := by
  have hx := square_floor_nonneg x
  have hy := square_floor_nonneg y
  refine Int.ediv_le_ediv (by positivity) ?_
  obtain hx₀ | hx₀ := le_total 0 x
  · have hsq := square_floor_le (abs_le_abs_of_nonneg hx₀ h)
    exact mul_le_mul hsq h hx₀ hy
  · obtain hy₀ | hy₀ := le_total y 0
    · have hsq := square_floor_le (abs_le_abs_of_nonpos hy₀ h)
      nlinarith
    · exact (mul_nonpos_of_nonneg_of_nonpos hx hx₀).trans (mul_nonneg hy hy₀)

theorem tanPoly_strictMono : StrictMono tanPoly := by
  intro x y h
  have hcube := tanCube_mono h.le
  rw [tanPoly_eq, tanPoly_eq]
  omega

theorem tanCube_neg_add (x : Int) : -1 ≤ tanCube (-x) + tanCube x ∧ tanCube (-x) + tanCube x ≤ 0 := by
  have hneg : -x * -x / 2 ^ 28 * -x = -(x * x / 2 ^ 28 * x) := by rw [neg_mul_neg, mul_neg]
  unfold tanCube
  rw [hneg]
  omega

theorem tanPoly_neg_add (x : Int) : -2 ≤ tanPoly (-x) + tanPoly x ∧ tanPoly (-x) + tanPoly x ≤ 0 := by
  have hcube := tanCube_neg_add x
  rw [tanPoly_eq, tanPoly_eq]
  omega

/-- Settles O29. -/
theorem tanIsIncreasingAndNearlyOdd : Obligations.TanIsIncreasingAndNearlyOdd := by
  refine ⟨fun x y h => ?_, fun x _ _ => ?_⟩
  · have hpoly := tanPoly_strictMono h
    rw [tanR_eq_sat, tanR_eq_sat, sat, sat]
    omega
  · have hpoly := tanPoly_neg_add x
    rw [tanR_eq_sat, tanR_eq_sat, abs_le, sat, sat]
    omega

end Sys2Proof.Proofs
end

section
/-! The values of `EXP2` and `N2F`, and that `EXP2` never falls: O30, O31, O32 (`40_math.md` R124, R125). The mantissa
rises from 2^30 to below 2^31 over one unit of the argument, and the shift by the whole part doubles it at the next. -/

namespace Sys2Proof.Proofs

open Sys2Proof.Machine Sys2Proof.Claims

/-! ### The mantissa -/

theorem exp2Tab_mono {j k : Nat} (hjk : j ≤ k) (hk : k ≤ 64) : exp2Tab j ≤ exp2Tab k := by
  induction k, hjk using Nat.le_induction with
  | base => exact le_rfl
  | succ k _ ih => exact (ih (by omega)).trans (exp2Tab_rises k (by omega)).1.le

/-- The mantissa lies between the entries of its segment. -/
theorem exp2Mantissa_segment {x : Int} {j : Nat} (hj : x / 2 ^ 21 = j) (hlt : j < 64) :
    exp2Tab j ≤ exp2Mantissa x ∧ exp2Mantissa x ≤ exp2Tab ((j : Int) + 1) := by
  have hread : exp2Mantissa x = exp2Tab j + asr ((exp2Tab ((j : Int) + 1) - exp2Tab j) * (x % 2 ^ 21)) 21 := by
    rw [← hj]
    rfl
  rw [hread]
  exact lerp_bounds_up _ _ _ 21 (exp2Tab_rises j hlt).1.le (by omega) (by omega)

theorem exp2Mantissa_ge {x : Int} (h₀ : 0 ≤ x) (h₁ : x < 2 ^ 27) : 2 ^ 30 ≤ exp2Mantissa x := by
  obtain ⟨j, hj⟩ := Int.eq_ofNat_of_zero_le (show 0 ≤ x / 2 ^ 21 by omega)
  have hentry : exp2Tab (0 : Nat) ≤ exp2Tab j := exp2Tab_mono (Nat.zero_le j) (by omega)
  exact hentry.trans (exp2Mantissa_segment hj (by omega)).1

/-- Within a segment the interpolation rises; between two segments lies a table entry. -/
theorem exp2Mantissa_mono {x y : Int} (h₀ : 0 ≤ x) (hxy : x ≤ y) (h₁ : y < 2 ^ 27) : exp2Mantissa x ≤ exp2Mantissa y := by
  obtain ⟨j, hj⟩ := Int.eq_ofNat_of_zero_le (show 0 ≤ x / 2 ^ 21 by omega)
  obtain ⟨k, hk⟩ := Int.eq_ofNat_of_zero_le (show 0 ≤ y / 2 ^ 21 by omega)
  obtain heq | hlt : x / 2 ^ 21 = y / 2 ^ 21 ∨ j + 1 ≤ k := by omega
  · have hrise : 0 ≤ exp2Tab ((j : Int) + 1) - exp2Tab j := by
      have := (exp2Tab_rises j (by omega)).1
      omega
    have hstep : x % 2 ^ 21 ≤ y % 2 ^ 21 := by omega
    have hlerp := asr_mono _ _ 21 (mul_le_mul_of_nonneg_left hstep hrise)
    have hx : asr x 21 = j := hj
    have hy : asr y 21 = j := heq.symm.trans hj
    simp only [exp2Mantissa, hx, hy]
    omega
  · exact (exp2Mantissa_segment hj (by omega)).2.trans
      ((exp2Tab_mono hlt (by omega)).trans (exp2Mantissa_segment hk (by omega)).1)

/-- Settles O30. -/
theorem exp2InterpolatesTheTable : Obligations.Exp2InterpolatesTheTable := by
  intro s
  have h₀ : 0 ≤ s.mathArg.toInt % 2 ^ 27 := by omega
  have h₁ : s.mathArg.toInt % 2 ^ 27 < 2 ^ 27 := by omega
  rw [exec_exp2, exp2_eq_pow2, ← exp2Mantissa_eq_pow2Mantissa]
  exact ⟨rfl, by omega, exp2Mantissa_ge h₀ h₁, (exp2Mantissa_range h₀ h₁).2⟩

/-- Settles O32. -/
theorem n2fConvertsTheLowHalf : Obligations.N2fConvertsTheLowHalf := by
  intro s
  rw [exec_n2f, n2f_eq_noteHz, mathArgLow_eq]
  rfl

/-! ### The shift by the whole part -/

/-- The power of two with 28 more bits than the result has, where the argument's whole part is `k - 16`: no shift of a
32-bit argument's mantissa drops a bit of it. -/
def exp2Wide (k : Nat) (x : Int) : Int := exp2Mantissa (x % 2 ^ 27) * 2 ^ k

/-- Both directions of the rule's shift are one floor. -/
theorem exp2_eq_asr_wide {k : Nat} {x : Int} (hk : x / 2 ^ 27 + 16 = k) : exp2 x = satU32 (asr (exp2Wide k x) 28) := by
  have hxi : 12 - asr x 27 = 28 - (k : Int) := by unfold asr; omega
  simp only [exp2, exp2Wide, hxi]
  generalize exp2Mantissa (x % 2 ^ 27) = y
  congr 1
  obtain hle | hlt : k ≤ 28 ∨ 28 < k := by omega
  · obtain ⟨n, hn⟩ := Nat.exists_eq_add_of_le hle
    have hsh : (28 : Int) - k = n := by omega
    rw [hsh, if_pos (Int.natCast_nonneg n), Int.toNat_natCast, asr, asr, hn, pow_add, mul_comm (2 ^ k),
      Int.mul_ediv_mul_of_pos_left _ _ (by positivity)]
  · obtain ⟨m, rfl⟩ := Nat.exists_eq_add_of_lt hlt
    have hsh : -(28 - ((28 + m + 1 : Nat) : Int)) = (m + 1 : Nat) := by omega
    rw [hsh, if_neg (by omega), Int.toNat_natCast, show 28 + m + 1 = m + 1 + 28 by omega, pow_add, ← mul_assoc]
    exact (asr_shl (y * 2 ^ (m + 1)) 28).symm

theorem exp2Wide_bounds (k : Nat) (x : Int) : 2 ^ (k + 30) ≤ exp2Wide k x ∧ exp2Wide k x ≤ 2 ^ (k + 31) - 2 ^ k := by
  have hlo := exp2Mantissa_ge (show 0 ≤ x % 2 ^ 27 by omega) (by omega)
  have hhi := (exp2Mantissa_range (show 0 ≤ x % 2 ^ 27 by omega) (by omega)).2
  have hpow : (0 : Int) < 2 ^ k := by positivity
  rw [exp2Wide, pow_add, pow_add]
  constructor <;> nlinarith

theorem exp2Wide_mono {j k : Nat} {x y : Int} (hj : x / 2 ^ 27 + 16 = j) (hk : y / 2 ^ 27 + 16 = k) (h : x ≤ y) :
    exp2Wide j x ≤ exp2Wide k y := by
  obtain rfl | hlt : j = k ∨ j + 1 ≤ k := by omega
  · have hm := exp2Mantissa_mono (show 0 ≤ x % 2 ^ 27 by omega) (show x % 2 ^ 27 ≤ y % 2 ^ 27 by omega) (by omega)
    exact mul_le_mul_of_nonneg_right hm (by positivity)
  · have hpow : (2 : Int) ^ (j + 31) ≤ 2 ^ (k + 30) := pow_le_pow_right₀ one_le_two (by omega)
    have hpos : (0 : Int) < 2 ^ j := by positivity
    linarith [(exp2Wide_bounds j x).2, (exp2Wide_bounds k y).1]

/-- The whole part of a 32-bit argument is -16 at least. -/
theorem exists_wholePart {x : Int} (h : -2 ^ 31 ≤ x) : ∃ k : Nat, x / 2 ^ 27 + 16 = k :=
  Int.eq_ofNat_of_zero_le (by omega)

theorem satU32_mono {v w : Int} (h : v ≤ w) : satU32 v ≤ satU32 w := by
  rw [satU32_eq_sat, satU32_eq_sat, sat, sat]
  omega

theorem exp2_mono {x y : Int} (h₀ : -2 ^ 31 ≤ x) (h : x ≤ y) : exp2 x ≤ exp2 y := by
  obtain ⟨j, hj⟩ := exists_wholePart h₀
  obtain ⟨k, hk⟩ := exists_wholePart (h₀.trans h)
  rw [exp2_eq_asr_wide hj, exp2_eq_asr_wide hk]
  exact satU32_mono (asr_mono _ _ 28 (exp2Wide_mono hj hk h))

theorem satU32_eq_max_iff (v : Int) : satU32 v = 2 ^ 32 - 1 ↔ 2 ^ 32 - 1 ≤ v := by
  rw [satU32_eq_sat, sat]
  omega

/-- From 14 on the wide power has bit 60; below 14 it stays two units of the result short of 2^60. -/
theorem exp2_saturates_iff {x : Int} (h₀ : -2 ^ 31 ≤ x) : exp2 x = 2 ^ 32 - 1 ↔ 14 * 2 ^ 27 ≤ x := by
  obtain ⟨k, hk⟩ := exists_wholePart h₀
  obtain ⟨hlo, hhi⟩ := exp2Wide_bounds k x
  rw [exp2_eq_asr_wide hk, satU32_eq_max_iff]
  obtain hlt | hge := Nat.lt_or_ge k 30
  · have hpow : (2 : Int) ^ k ≤ 2 ^ 29 := pow_le_pow_right₀ one_le_two (by omega)
    have hbelow : asr (exp2Wide k x) 28 < 2 ^ 32 - 1 := by
      refine (Int.ediv_lt_iff_lt_mul (by positivity)).2 ?_
      rw [pow_add] at hhi
      linarith
    exact ⟨fun h => absurd h (by omega), fun h => absurd h (by omega)⟩
  · have hpow : (2 : Int) ^ 60 ≤ 2 ^ (k + 30) := pow_le_pow_right₀ one_le_two (by omega)
    have hfrom : 2 ^ 32 - 1 ≤ asr (exp2Wide k x) 28 := by
      refine (Int.le_ediv_iff_mul_le (by positivity)).2 ?_
      linarith
    exact ⟨fun _ => by omega, fun _ => hfrom⟩

/-- Settles O31. -/
theorem exp2IsIncreasingAndSaturatesFrom14 : Obligations.Exp2IsIncreasingAndSaturatesFrom14 :=
  ⟨fun _ _ h₀ h _ => exp2_mono h₀ h, fun _ h₀ _ => exp2_saturates_iff h₀⟩

end Sys2Proof.Proofs
end

section
/-! The reciprocals: O33, O34, O35 (`40_math.md` R126 to R128). The ends of the core's range are taken in the first and the
last segment of `RCP_TAB` only; the commands normalise their argument for the core. -/

namespace Sys2Proof.Proofs

open Sys2Proof.Machine Sys2Proof.Claims

/-! ### The core -/

/-- The first and the last segment of the table. -/
theorem rcpTab_ends : rcpTab (0 : Nat) = 65536 ∧ rcpFall 0 = 508 ∧ rcpTab (127 : Nat) = 32897 ∧ rcpFall 127 = 129 := by
  decide

/-- The segments between them stay away from the ends of the range. -/
theorem rcpTab_inner : ∀ j : Nat, j < 128 →
    (j ≠ 0 → rcpTab j ≤ 65028) ∧ (j ≠ 127 → 32897 ≤ rcpTab ((j : Int) + 1)) :=
  forall_lt_of_digits 8 16 (by decide)

/-- The core lies between the entries of its segment. -/
theorem rcpm_segment {j : Nat} (hj : j < 128) {r : Int} (h₀ : 0 ≤ r) (h₁ : r < 512) :
    rcpTab ((j : Int) + 1) ≤ rcpm (512 * (j : Int) + r) ∧ rcpm (512 * (j : Int) + r) ≤ rcpTab j := by
  have hfall := rcpFall_pos j hj
  have hlerp := lerp_bounds_down (rcpTab j) (rcpTab ((j : Int) + 1)) r 9 (by unfold rcpFall at hfall; omega) h₀ h₁
  rw [rcpm_eq_lerp j h₀ h₁, rcpLerp, rcpFall, neg_sub]
  exact hlerp

/-- Where the core takes the ends of its range. -/
theorem rcpm_ends {f : Int} (h₀ : 0 ≤ f) (h₁ : f ≤ 65535) : 32768 ≤ rcpm f ∧ rcpm f ≤ 65536 ∧
    (rcpm f = 65536 ↔ f = 0) ∧ (rcpm f = 32768 ↔ 65533 ≤ f) := by
  obtain ⟨j, r, hj, hr₀, hr₁, rfl⟩ : ∃ (j : Nat) (r : Int), j < 128 ∧ 0 ≤ r ∧ r < 512 ∧ f = 512 * (j : Int) + r :=
    ⟨(f / 512).toNat, f % 512, by omega, by omega, by omega, by omega⟩
  obtain ⟨hlo, hhi⟩ := rcpm_segment hj hr₀ hr₁
  obtain ⟨hfirst, hfirstFall, hlast, hlastFall⟩ := rcpTab_ends
  obtain ⟨hbelow, habove⟩ := rcpTab_inner j hj
  obtain rfl | rfl | ⟨hne₀, hne₁⟩ : j = 0 ∨ j = 127 ∨ (j ≠ 0 ∧ j ≠ 127) := by omega
  · have hfloor := rcpLerp_floor 65536 508 r
    rw [rcpm_eq_lerp 0 hr₀ hr₁, hfirst, hfirstFall]
    omega
  · have hfloor := rcpLerp_floor 32897 129 r
    rw [rcpm_eq_lerp 127 hr₀ hr₁, hlast, hlastFall]
    omega
  · have := hbelow hne₀
    have := habove hne₁
    omega

/-- Settles O33. -/
theorem reciprocalCoreRange : Obligations.ReciprocalCoreRange := fun _ h₀ h₁ =>
  ⟨rcpm_eq_recip h₀, ⟨by omega, by omega⟩, rcpm_ends h₀ h₁⟩

/-! ### The commands -/

/-- Settles O34: the exponent is the one by which the argument is normalised, and the core reads the bits below its
leading one. -/
theorem rcp1pNormalisesAndLooksUp : Obligations.Rcp1pNormalisesAndLooksUp := by
  intro s
  obtain ⟨hk₀, hk₁⟩ := u32_bounds s.mathArg
  obtain ⟨f, e, hcmd, hf₀, hf₁, he, hlo, hhi⟩ := rcp1p_normalises hk₀ (by omega)
  have hpos : (0 : Int) < 2 ^ (e + 12) := by positivity
  have hread : ((s.mathArg.toNat + 2 ^ 28 : Int) / 2 ^ e - 2 ^ 28) / 2 ^ 12 = f := by
    have hshift : (s.mathArg.toNat + 2 ^ 28 : Int) / 2 ^ e / 2 ^ 12 = 65536 + f := by
      rw [Int.ediv_ediv_of_nonneg (by positivity), ← pow_add]
      exact (Int.ediv_eq_iff_of_pos hpos).2 ⟨hlo, by rwa [← add_one_mul]⟩
    omega
  refine ⟨e, he, ?_, ?_, ?_⟩
  · zify
    calc (2 : Int) ^ (28 + e) = 65536 * 2 ^ (e + 12) := by ring
      _ ≤ (65536 + f) * 2 ^ (e + 12) := by gcongr; omega
      _ ≤ _ := hlo
  · zify
    calc (s.mathArg.toNat : Int) + 2 ^ 28 < (65536 + f + 1) * 2 ^ (e + 12) := hhi
      _ ≤ 131072 * 2 ^ (e + 12) := by gcongr; omega
      _ = 2 ^ (29 + e) := by ring
  · rw [exec_rcp1p, hcmd, hread, ← rcpm_eq_recip hf₀]
    rfl

/-- Settles O35. -/
theorem rcp1mNormalisesAndLooksUp : Obligations.Rcp1mNormalisesAndLooksUp := by
  intro s
  rw [exec_rcp1m, mathArgLow_eq]
  obtain ⟨x, hx⟩ : ∃ x, x = s.mathArg.toNat % 2 ^ 16 := ⟨_, rfl⟩
  rw [← hx]
  have hlt : x < 65536 := by omega
  obtain ⟨f, z, hcmd, hf₀, hf₁, hz, hv⟩ := rcp1m_normalises (Int.natCast_nonneg x) (by exact_mod_cast hlt)
  have hv' : (((65536 - x) * 2 ^ z : Nat) : Int) = 65536 + f := by
    rw [← hv]
    push_cast [hlt.le]
    rfl
  refine ⟨z, hz, by omega, by omega, ?_⟩
  rw [hcmd, hv, add_sub_cancel_left, ← rcpm_eq_recip hf₀]
  simp only [mathResult, to32, BitVec.ofInt_natCast]

end Sys2Proof.Proofs
end

section
/-! SUPPORT. The checks of a command by its format: the "Errors" of its rule (`30_encoding.md` R96, `45_system.md` R220,
`60_exceptions.md` R243), and the unit check that a unit of the block passes. -/

namespace Sys2Proof.Proofs

open Sys2Proof.Machine Sys2Proof.Claims

theorem errorsU_of_mem {row : Nat × Nat × (UnitIndex → Instr)} (hrow : row ∈ formatU) : ErrorsU row.1 row.2.1 := by
  intro s c rest hs hc
  have hdecode := decode_of_formatU hrow hc
  constructor
  · intro himm
    exact stepRecords_of_illegal hs (hdecode.trans (if_pos himm))
  · intro himm hunit
    rw [if_neg (not_not.2 himm), if_neg hunit.not_gt] at hdecode
    exact stepRecords_of_badUnit hs hdecode

theorem errorsP_opcPair : ErrorsP opcPair := by
  intro s c rest hs hc hbad
  have hdecode := decode_of_opcPair hc
  rw [if_neg (by omega)] at hdecode
  exact stepRecords_of_illegal hs hdecode

/-- A word that passes the checks 3a to 3c decodes to a command (`60_exceptions.md` R243). -/
theorem exists_decode_command {c : Word} (hcmd : ¬NoCommand c) (hunit : ¬NoUnit c) : ∃ i, decode c = .command i := by
  obtain ⟨hassigned, hreserved⟩ := not_or.1 hcmd
  obtain ⟨hresN, hreserved⟩ := not_or.1 hreserved
  obtain ⟨hresU, hresP⟩ := not_or.1 hreserved
  have hmem := not_not.1 hassigned
  rw [assigned, List.mem_append, List.mem_append, List.mem_singleton] at hmem
  obtain (hN | hU) | hP := hmem
  · obtain ⟨row, hrow, hc⟩ := List.mem_map.1 hN
    have hzero : unitNo c = 0 ∧ immOf c = 0 := by
      by_contra hne
      exact hresN ⟨hN, not_and_or.1 hne⟩
    exact ⟨_, (decode_of_formatN hrow hc.symm).trans (if_pos hzero)⟩
  · obtain ⟨row, hrow, hc⟩ := List.mem_map.1 hU
    have himm : ¬immOf c ≠ 0 := fun hne => hresU ⟨hU, hne⟩
    have hlt : unitNo c < row.2.1 := by
      by_contra hge
      exact hunit ⟨hcmd, row, hrow, hc.symm, not_lt.1 hge⟩
    exact ⟨_, (decode_of_formatU hrow hc.symm).trans ((if_neg himm).trans (if_pos hlt))⟩
  · have hgood : unitNo c = 0 ∧ immOf c < 2 := by
      by_contra hbad
      exact hresP ⟨hP, by omega⟩
    exact ⟨_, (decode_of_opcPair hP).trans (if_pos hgood)⟩

theorem errorsNoContext_of_mem {opc : Nat} (hopc : opc ∈ perSample) : ErrorsNoContext opc := by
  intro s c rest hs hc hcmd hunit hctx
  obtain ⟨i, hi⟩ := exists_decode_command hcmd hunit
  obtain ⟨hw, rfl⟩ := encode_of_decode_command hi
  have hneeds : i.needsContext = true := (opcOf_encode_mem_perSample i).1 (by rwa [hc])
  exact stepRecords_of_step_eq (e := .noCtx)
    ((step_of_command s _ i rest hs hi).trans (exec_without_context hw hneeds hctx))

/-- A unit of the block passes the unit check (R92). -/
theorem onUnit_fin {count : Nat} (hcount : count ≤ 256) (i : Instr) (u : Fin count) (body : Fin count → State → State)
    (s : State) : onUnit count i (BitVec.ofNat 8 u) body s = body u s := by
  have hu : (BitVec.ofNat 8 u : UnitIndex).toNat = u := Nat.mod_eq_of_lt (u.isLt.trans_le hcount)
  rw [onUnit_of_lt i _ body s (by rw [hu]; exact u.isLt)]
  exact congrArg (body · s) (Fin.ext hu)

end Sys2Proof.Proofs
end

section
/-! The rules' second transcription, continued: the oscillator's sample (`41_oscillator.md` R142 to R149) equals the one
that the statements write in plain integer arithmetic. -/

namespace Sys2Proof.Proofs

open Sys2Proof.Machine Sys2Proof.Claims

/-! ### Sync words (`30_encoding.md` R102) -/

theorem decodeSync_eq_syncOf (v : SyncWord) : decodeSync v = syncOf v := by
  have hv : v.toNat < 2 ^ 18 := v.isLt
  have htag : v.toNat / 2 ^ 16 = (v.extractLsb' 16 2).toNat := by
    rw [BitVec.extractLsb'_toNat, Nat.shiftRight_eq_div_pow]
    omega
  unfold decodeSync syncOf
  rw [htag]
  split
  next h =>
    rw [h]
    rfl
  next h =>
    rw [h]
    rfl
  next h₁ h₂ =>
    have hne₁ : (v.extractLsb' 16 2).toNat ≠ 1 := fun h => h₁ (BitVec.eq_of_toNat_eq h)
    have hne₂ : (v.extractLsb' 16 2).toNat ≠ 2 := fun h => h₂ (BitVec.eq_of_toNat_eq h)
    rw [if_neg hne₁, if_neg hne₂]

theorem syncOf_of_tag_ne_two {v : SyncWord} (h : v.toNat / 2 ^ 16 ≠ 2) : syncOf v = .primary ∨ syncOf v = .off := by
  rw [syncOf, if_neg h]
  exact ite_eq_or_eq _ _ _

/-- The tag is above the fraction. -/
theorem encodeSync_eq_syncWord (y : OscSync) : encodeSync y = syncWord y := by
  cases y with
  | off | primary => rfl
  | secondary c =>
    have hc : c.toNat < 2 ^ 16 := c.isLt
    have hor : 2 <<< 16 + c.toNat = 2 <<< 16 ||| c.toNat := Nat.shiftLeft_add_eq_or_of_lt hc 2
    refine BitVec.eq_of_toNat_eq ?_
    calc (encodeSync (.secondary c)).toNat = 2 <<< 16 ||| c.toNat := by
          rw [encodeSync, BitVec.toNat_or, BitVec.toNat_setWidth_of_le (by decide)]
          rfl
      _ = 0x20000 + c.toNat := hor.symm
      _ = (syncWord (.secondary c)).toNat := by rw [syncWord, BitVec.toNat_ofNat, Nat.mod_eq_of_lt (by omega)]

/-! ### One sample by the rules' pseudocode (R142 to R149) -/

theorem satS16_eq_sat (v : Int) : satS16 v = sat (-32768) 32767 v := clamp_eq_sat (by decide) v

theorem satU16_eq_sat (v : Int) : satU16 v = sat 0 65535 v := clamp_eq_sat (by decide) v

theorem k2_eq_k2Of {rate : Word} (h : rate = 44100 ∨ rate = 48000) : k2 rate = k2Of rate := by
  obtain rfl | rfl := h <;> rfl

/-- The increment of a note and a tune, R142 and R143. -/
theorem phaseStep_effNote {rate : Word} (h : rate = 44100 ∨ rate = 48000) (note : Note) (tune : NoteOffset) :
    phaseStep rate (effNote note tune) =
      noteHz (sat 0 65535 ((note.toNat : Int) + tune.toInt)) * k2Of rate / 2 ^ 20 := by
  rw [phaseStep, effNote, n2f_eq_noteHz, satU16_eq_sat, k2_eq_k2Of h]
  rfl

theorem shapeUsed_nonneg (shape : Scalar) : 0 ≤ shapeUsed shape :=
  le_min (u16_bounds shape).1 (by decide)

/-- The two rates of a step and a shape, R145. -/
theorem oscRates_eq {d s : Int} (hs : 0 ≤ s) : oscRates d s =
    { s := s, m1p := recip s, m1m := (rcp1m s).1, z := (rcp1m s).2, dNeg := d * recip s / 2 ^ 16,
      dPos := sat (-2 ^ 31) (2 ^ 31 - 1) (d * (rcp1m s).1 / 2 ^ (16 - (rcp1m s).2)) } := by
  simp only [oscRates, rcpm_eq_recip hs, satS32_eq_sat, asr]

theorem rescaleUp_eq (r : OscRates) (new : Int) :
    rescaleUp r new = sat (-2 ^ 31) (2 ^ 31 - 1) (new * (65536 + r.s) / 2 ^ 16 * r.m1m / 2 ^ (16 - r.z)) :=
  satS32_eq_sat _

theorem crossingReport_primary (r : OscRates) (new : Int) :
    crossingReport r new .primary = .secondary (BitVec.ofInt 16 (sat 0 65535 (new * 2 ^ 16 / r.dNeg))) := by
  rw [crossingReport, satU16_eq_sat]
  rfl

/-- `advance`, R148: a restart, a phase that stays negative or crosses zero, and a phase that was not negative. -/
theorem advance_eq_phaseAdvance (r : OscRates) (q : Int) (sync : OscSync) :
    advance r q sync = phaseAdvance r.s r.m1p r.m1m r.z r.dNeg r.dPos q sync := by
  have hflip : 0 ≤ q + r.dNeg ↔ ¬q + r.dNeg < 0 := not_lt.symm
  cases sync with
  | secondary c =>
    simp only [advance, advanceRaw, satS32_eq_sat]
    rfl
  | off =>
    simp only [advance, advanceRaw, satS32_eq_sat, hflip, ite_not, rescaleUp_eq]
    rfl
  | primary =>
    simp only [advance, advanceRaw, satS32_eq_sat, hflip, ite_not, rescaleUp_eq, crossingReport_primary]
    rfl

theorem to16_waveSin (q : Int) : to16 (waveSin q) = BitVec.ofInt 16 (sine q / 4) := by
  rw [waveSin, sinpi_eq_sine]
  rfl

theorem to16_waveSquare (q : Int) : to16 (waveSquare q) = if q < 0 then 0xF000 else 0x1000 := by
  unfold waveSquare
  by_cases hq : q < 0
  · rw [if_pos hq, if_neg hq.not_ge]
    rfl
  · rw [if_neg hq, if_pos (not_lt.1 hq)]
    rfl

theorem to16_waveTri (q : Int) : to16 (waveTri q) = BitVec.ofInt 16 (sat (-32768) 32767 ((2 ^ 28 - 2 * |q|) / 2 ^ 16)) :=
  congrArg to16 (satS16_eq_sat _)

theorem to16_waveSaw (q : Int) : to16 (waveSaw q) = BitVec.ofInt 16 (sat (-32768) 32767 (q / 2 ^ 16)) :=
  congrArg to16 (satS16_eq_sat _)

/-- `osc_sample` at a supported rate, R149. -/
theorem oscSample_eq_oscAfter {rate : Word} (h : rate = 44100 ∨ rate = 48000) (note : Note) (sync : OscSync)
    (o : OscUnit) : oscSample rate note sync o = oscAfter rate note sync o := by
  simp only [oscSample, phaseStep_effNote h, oscRates_eq (shapeUsed_nonneg o.shape), advance_eq_phaseAdvance,
    to16_waveSin, to16_waveSquare, to16_waveTri, to16_waveSaw]
  rfl

/-- A sample and the write of its report, R150. -/
theorem oscStep_eq_oscAfter {rate : Word} (h : rate = 44100 ∨ rate = 48000) (note : Note) (sync : OscSync)
    (o : OscUnit) : oscStep rate note sync o =
      { (oscAfter rate note sync o).1 with syncOut := syncWord (oscAfter rate note sync o).2 } := by
  simp only [oscStep, oscSample_eq_oscAfter h, encodeSync_eq_syncWord]

end Sys2Proof.Proofs
end

section
/-! The oscillators: O36, O37, O38, O39, O40 (`41_oscillator.md` R142 to R152). -/

namespace Sys2Proof.Proofs

open Sys2Proof.Machine Sys2Proof.Claims

/-! ### The commands as functions of the state -/

theorem exec_oscNext (u : Fin 2) {s : State} (h : ctxValid s.status = true) :
    exec (.oscNext (BitVec.ofNat 8 u)) s = .next (oscNextOn u s) := by
  have hx : exec (.oscNext (BitVec.ofNat 8 u)) s = execOscNext (BitVec.ofNat 8 u) s := rfl
  rw [hx, execOscNext, onUnit_fin (by decide), inContext_of_valid _ _ _ h]

theorem exec_oscPair (sync : Bool) {s : State} (h : ctxValid s.status = true) :
    exec (.oscPair sync) s = .next (oscPairOn sync s) :=
  congrArg Host.Outcome.next (inContext_of_valid (.oscPair sync) (oscPairOn sync) s h)

theorem exec_oscRst (u : Fin 2) (s : State) :
    exec (.oscRst (BitVec.ofNat 8 u)) s = .next (setOsc u (oscDefault (getOsc u s)) s) :=
  congrArg Host.Outcome.next (onUnit_fin (by decide) _ u _ s)

/-- Settles O36. -/
theorem oscNextTakesOneSample : Obligations.OscNextTakesOneSample := by
  refine ⟨fun s u ⟨hvalid, hrate⟩ => ?_, errorsU_of_mem (row := (0x20, 2, .oscNext)) (by simp [formatU]),
    errorsNoContext_of_mem (by decide)⟩
  dsimp only
  rw [exec_oscNext u hvalid, oscNextOn, oscStep_eq_oscAfter hrate, decodeSync_eq_syncOf]

/-! ### The pair -/

/-- Only a `Primary` reports (R148). -/
theorem advance_reports_off (r : OscRates) (q : Int) {sync : OscSync} (h : sync ≠ .primary) :
    (advance r q sync).2 = .off := by
  cases sync with
  | secondary c => rfl
  | primary => exact absurd rfl h
  | off => simp only [advance, advanceRaw, crossingReport, apply_ite Prod.snd, ite_self]

theorem advance_report_ne_primary (r : OscRates) (q : Int) (sync : OscSync) : (advance r q sync).2 ≠ .primary := by
  obtain h | ⟨c, h⟩ := advance_syncOut r q sync <;> rw [h] <;> nofun

/-- Oscillator 1 is given no `Primary` by `OSC.PAIR`: it gets a report. -/
theorem pairSyncIn1_ne_primary (sync : Bool) (s : State) : pairSyncIn1 sync s ≠ .primary := by
  cases sync with
  | false => nofun
  | true => exact advance_report_ne_primary _ _ _

theorem oscSample_reports_off (rate : Word) (note : Note) {sync : OscSync} (h : sync ≠ .primary) (o : OscUnit) :
    (oscSample rate note sync o).2 = .off :=
  advance_reports_off _ _ h

theorem oscStep_syncOut_of_ne_primary (rate : Word) (note : Note) {sync : OscSync} (h : sync ≠ .primary) (o : OscUnit) :
    (oscStep rate note sync o).syncOut = 0 :=
  congrArg encodeSync (oscSample_reports_off rate note h o)

/-- A sample of an oscillator that is no primary, as the rules write it. -/
theorem oscStep_of_ne_primary {rate : Word} (hrate : rate = 44100 ∨ rate = 48000) (note : Note) {sync : OscSync}
    (h : sync ≠ .primary) (o : OscUnit) :
    oscStep rate note sync o = { (oscAfter rate note sync o).1 with syncOut := 0 } := by
  have hreport := oscSample_reports_off rate note h o
  rw [oscSample_eq_oscAfter hrate] at hreport
  rw [oscStep_eq_oscAfter hrate, hreport]
  rfl

theorem pairSyncIn1_eq_oscAfter {s : State} (h : s.ctxRate = 44100 ∨ s.ctxRate = 48000) (sync : Bool) :
    pairSyncIn1 sync s =
      if sync then (oscAfter s.ctxRate s.osc0.note (if sync then .primary else .off) s.osc0).2 else .off := by
  rw [pairSyncIn1, pairSyncIn0, oscSample_eq_oscAfter h]

/-- `OSC.PAIR` as R151 writes it. -/
theorem oscPairOn_eq_oscAfter {s : State} (h : s.ctxRate = 44100 ∨ s.ctxRate = 48000) (sync : Bool) :
    let r0 := oscAfter s.ctxRate s.osc0.note (if sync then .primary else .off) s.osc0
    let r1 := oscAfter s.ctxRate s.osc0.note (if sync then r0.2 else .off) s.osc1
    oscPairOn sync s = { s with
      osc0 := { r0.1 with syncOut := syncWord r0.2 }, osc1 := { r1.1 with syncOut := 0 } } := by
  dsimp only
  rw [oscPairOn_eq, oscStep_of_ne_primary h _ (pairSyncIn1_ne_primary sync s), oscStep_eq_oscAfter h,
    pairSyncIn1_eq_oscAfter h]
  rfl

/-- The state from which R151 compares the pair with the two commands: both sync inputs Off, one note. -/
def onOneNote (s : State) : State :=
  { s with osc0 := { s.osc0 with syncIn := 0 }, osc1 := { s.osc1 with syncIn := 0, note := s.osc0.note } }

/-- The inputs that `onOneNote` replaces, given back. -/
def withInputsOf (s t : State) : State :=
  { t with osc0 := { t.osc0 with syncIn := s.osc0.syncIn },
           osc1 := { t.osc1 with syncIn := s.osc1.syncIn, note := s.osc1.note } }

/-- A sync input that reads 0 is Off (R102). -/
theorem oscNextOn_of_syncIn_zero {u : Fin 2} {s : State} (h : (getOsc u s).syncIn = 0) :
    oscNextOn u s = setOsc u (oscStep s.ctxRate (getOsc u s).note .off (getOsc u s)) s := by
  have hoff : decodeSync 0 = .off := by decide
  rw [oscNextOn, h, hoff]

/-- Without sync the pair is the two samples one after the other (R151). -/
theorem oscPairOn_false (s : State) : oscPairOn false s = withInputsOf s (oscNextOn 1 (oscNextOn 0 (onOneNote s))) := by
  rw [oscNextOn_of_syncIn_zero (u := 0) rfl, oscNextOn_of_syncIn_zero (u := 1) rfl]
  rfl

/-- Settles O37. -/
theorem oscPairTakesOneSampleOfBoth : Obligations.OscPairTakesOneSampleOfBoth := by
  refine ⟨fun s sync ⟨hvalid, hrate⟩ => ?_, fun s hvalid => ?_, errorsP_opcPair, errorsNoContext_of_mem (by decide)⟩
  · dsimp only
    rw [exec_oscPair sync hvalid, oscPairOn_eq_oscAfter hrate sync]
  · exact ⟨_, _, _, exec_oscPair false hvalid, exec_oscNext 0 (s := onOneNote s) hvalid,
      exec_oscNext 1 (s := oscNextOn 0 (onOneNote s)) hvalid, oscPairOn_false s⟩

/-- The phase before the wrap where nothing restarts it: a `Primary` advances as without sync (R148). -/
theorem advanceRaw_fst {sync : OscSync} (h : sync = .primary ∨ sync = .off) (r : OscRates) (q : Int) :
    (advanceRaw r q sync).1 =
      if q < 0 then if 0 ≤ q + r.dNeg then rescaleUp r (q + r.dNeg) else q + r.dNeg else satS32 (q + r.dPos) := by
  obtain rfl | rfl := h <;> simp only [advanceRaw, apply_ite Prod.fst]

theorem advance_primary_fst (r : OscRates) (q : Int) : (advance r q .primary).1 = (advance r q .off).1 := by
  rw [advance, advance, advanceRaw_fst (.inl rfl), advanceRaw_fst (.inr rfl)]

/-- A sample as `Primary` is a sample without sync but for the report. -/
theorem oscStep_primary (rate : Word) (note : Note) (o : OscUnit) : oscStep rate note .primary o =
    { oscStep rate note .off o with syncOut := (oscStep rate note .primary o).syncOut } := by
  simp only [oscStep, oscSample, advance_primary_fst]

/-- Settles O38. -/
theorem syncLeavesThePrimaryAlone : Obligations.SyncLeavesThePrimaryAlone := fun s hvalid =>
  ⟨_, _, exec_oscPair true hvalid, exec_oscPair false hvalid, oscStep_primary s.ctxRate s.osc0.note s.osc0,
    oscStep_syncOut_of_ne_primary (sync := .off) s.ctxRate s.osc0.note nofun s.osc0⟩

/-! ### The reset of an oscillator -/

/-- Settles O39. -/
theorem oscRstGivesTheDefault : Obligations.OscRstGivesTheDefault :=
  ⟨fun s u => exec_oscRst u s, errorsU_of_mem (row := (0x2F, 2, .oscRst)) (by simp [formatU])⟩

/-! ### Shape 0 (R145, R148) -/

theorem k2_bounds (rate : Word) : 0 ≤ k2 rate ∧ k2 rate ≤ 65535 := by
  unfold k2
  split
  · decide
  · split
    · decide
    · exact u16_bounds _

/-- The increment is less than one half-turn (R143). -/
theorem phaseStep_bounds (rate : Word) (n : Int) : 0 ≤ phaseStep rate n ∧ phaseStep rate n < 2 ^ 28 := by
  obtain ⟨hf₀, hf₁⟩ : 0 ≤ n2f n ∧ n2f n < 2 ^ 32 := exp2_range _
  obtain ⟨hk₀, hk₁⟩ := k2_bounds rate
  have hprod : n2f n * k2 rate < (2 ^ 28 - 1 + 1) * 2 ^ 20 := by nlinarith
  obtain ⟨hlo, hhi⟩ := asr_bounds (n2f n * k2 rate) 0 (2 ^ 28 - 1) 20 (by rw [zero_mul]; positivity) hprod
  exact ⟨hlo, Int.lt_of_le_sub_one hhi⟩

/-- Without warp the two rates are the increment itself (R145). -/
def plainRates (d : Int) : OscRates := { s := 0, m1p := 65536, m1m := 65536, z := 0, dNeg := d, dPos := d }

theorem satS32_of_mem {v : Int} (h₀ : -2 ^ 31 ≤ v) (h₁ : v < 2 ^ 31) : satS32 v = v :=
  clamp_of_mem _ _ _ h₀ (Int.le_sub_one_of_lt h₁)

theorem oscRates_zero {d : Int} (h₀ : 0 ≤ d) (h₁ : d < 2 ^ 28) : oscRates d 0 = plainRates d := by
  have hcore : rcpm 0 = 65536 := by decide
  have hcmd : rcp1m 0 = (65536, 0) := by decide
  have hd : asr (d * 65536) 16 = d := asr_shl d 16
  have hsat : satS32 d = d := satS32_of_mem (by omega) (by omega)
  simp only [oscRates, hcore, hcmd, hd, hsat, Nat.sub_zero, plainRates]

/-- Scaling by 1.0 twice. -/
theorem asr_asr_one (v : Int) : asr (asr (v * 65536) 16 * 65536) 16 = v := by
  rw [show asr (v * 65536) 16 = v from asr_shl v 16]
  exact asr_shl v 16

/-- No crossing rescales the phase. -/
theorem advanceRaw_plainRates {d q : Int} (hd₀ : 0 ≤ d) (hd₁ : d < 2 ^ 28) (hq₀ : -2 ^ 28 ≤ q) (hq₁ : q < 2 ^ 28)
    {sync : OscSync} (h : sync = .primary ∨ sync = .off) : (advanceRaw (plainRates d) q sync).1 = q + d := by
  have hneg : (plainRates d).dNeg = d := rfl
  have hpos : (plainRates d).dPos = d := rfl
  have hsat : satS32 (q + d) = q + d := satS32_of_mem (by omega) (by omega)
  have hup : rescaleUp (plainRates d) (q + d) = q + d := (congrArg satS32 (asr_asr_one (q + d))).trans hsat
  rw [advanceRaw_fst h, hneg, hpos, hup, hsat, ite_self, ite_self]

theorem wrapTop_plainRates (d new : Int) :
    wrapTop (plainRates d) new = if new < 2 ^ 28 then new else new - 2 ^ 29 := by
  have hscaled : asr (asr ((new - 2 ^ 28) * 65536) 16 * 65536) 16 = new - 2 ^ 28 := asr_asr_one _
  have hwrap : wrapTop (plainRates d) new =
      if 2 ^ 28 ≤ new then -(2 ^ 28) + asr (asr ((new - 2 ^ 28) * 65536) 16 * 65536) 16 else new := rfl
  rw [hwrap, hscaled]
  split <;> split <;> omega

/-- With shape 0 and no restart the phase advances by `d` and wraps once at +1 (R145, R148). -/
theorem advance_shapeZero {d q : Int} (hd₀ : 0 ≤ d) (hd₁ : d < 2 ^ 28) (hq₀ : -2 ^ 28 ≤ q) (hq₁ : q < 2 ^ 28)
    {sync : OscSync} (h : sync = .primary ∨ sync = .off) :
    (advance (oscRates d 0) q sync).1 = if q + d < 2 ^ 28 then q + d else q + d - 2 ^ 29 := by
  rw [oscRates_zero hd₀ hd₁, advance, advanceRaw_plainRates hd₀ hd₁ hq₀ hq₁ h, wrapTop_plainRates]
  refine reducePhase_of_mem _ ?_ ?_ <;> split <;> omega

theorem s32_to32_advance (r : OscRates) (q : Int) (sync : OscSync) :
    s32 (to32 (advance r q sync).1) = (advance r q sync).1 := by
  obtain ⟨hlo, hhi⟩ := reducePhase_bounds (wrapTop r (advanceRaw r q sync).1)
  rw [advance]
  exact s32_to32 _ (by omega) (by omega)

/-- The stored phase reads back as the advanced one. -/
theorem oscStep_phase (rate : Word) (note : Note) (sync : OscSync) (o : OscUnit) :
    (oscStep rate note sync o).phase.toInt =
      (advance (oscRates (phaseStep rate (effNote note o.tune)) (shapeUsed o.shape)) o.phase.toInt sync).1 :=
  s32_to32_advance _ _ _

/-- Settles O40. -/
theorem shapeZeroAdvancesByTheIncrement : Obligations.ShapeZeroAdvancesByTheIncrement := by
  intro s u ⟨hvalid, hrate⟩ ⟨⟨hq₀, hq₁⟩, _⟩ hshape htag
  obtain ⟨hd₀, hd₁⟩ := phaseStep_bounds s.ctxRate (effNote (getOsc u s).note (getOsc u s).tune)
  have hs : shapeUsed 0 = 0 := by decide
  refine ⟨_, exec_oscNext u hvalid, ?_⟩
  rw [oscNextOn, getOsc_setOsc_same, oscStep_phase, hshape, hs, decodeSync_eq_syncOf,
    advance_shapeZero hd₀ hd₁ hq₀ (Int.lt_add_one_of_le hq₁) (syncOf_of_tag_ne_two htag), phaseStep_effNote hrate]

end Sys2Proof.Proofs
end

section
/-! The filter: O41, O42, O43 (`42_filter.md` R171 to R173). One sample is the rules' second transcription at the
coefficients of R171, and the reciprocal of the denominator is a factor of at most 1.0. -/

namespace Sys2Proof.Proofs

open Sys2Proof.Machine Sys2Proof.Claims

/-! ### The commands as functions of the state -/

/-- The reserved-field check of a format-N command (`60_exceptions.md` R243). -/
theorem errorsN_of_mem {row : Nat × Instr} (hrow : row ∈ formatN) : ErrorsN row.1 := by
  intro s c rest hs hc hbad
  have hdecode := decode_of_formatN hrow hc
  rw [if_neg (not_and_or.2 hbad)] at hdecode
  exact stepRecords_of_illegal hs hdecode

theorem exec_filtNext {s : State} (h : ctxValid s.status = true) : exec .filtNext s = .next (filtNextOn s) :=
  congrArg Host.Outcome.next (inContext_of_valid .filtNext filtNextOn s h)

theorem exec_filtRst (s : State) : exec .filtRst s = .next (setFilt (filtDefault s.filt) s) := rfl

/-- Settles O42. -/
theorem filtRstGivesTheDefault : Obligations.FiltRstGivesTheDefault :=
  ⟨exec_filtRst, errorsN_of_mem (row := (0x3F, .filtRst)) (by simp [formatN])⟩

/-! ### The division by the denominator -/

theorem filtDenom_bounds (g rr : Int) : 0 ≤ filtDenom g rr ∧ filtDenom g rr < 2 ^ 32 :=
  ⟨(satU32_bounds _).1, Int.lt_add_one_of_le (satU32_bounds _).2⟩

/-- The mantissa of the reciprocal of a number from 1 on is at most 1.0 (`40_math.md` R126, R127). -/
theorem rcp1p_mantissa_bounds {k : Int} (h₀ : 0 ≤ k) (h₁ : k < 2 ^ 32) :
    0 ≤ (rcp1p k).1 ∧ (rcp1p k).1 ≤ 2 ^ 16 := by
  obtain ⟨f, e, heq, hf₀, hf₁, _⟩ := rcp1p_normalises h₀ h₁
  obtain ⟨hlo, hhi, _⟩ := rcpm_ends hf₀ hf₁
  rw [heq]
  exact ⟨by omega, hhi⟩

/-- A factor from 0 to 1.0, with any exponent, keeps a number in the range of a signed word. -/
theorem asr_mul_mem_s32 {v m : Int} (hv₀ : -2 ^ 31 ≤ v) (hv₁ : v < 2 ^ 31) (hm₀ : 0 ≤ m) (hm₁ : m ≤ 2 ^ 16) (e : Nat) :
    -2 ^ 31 ≤ asr (v * m) (16 + e) ∧ asr (v * m) (16 + e) < 2 ^ 31 := by
  have hfactor : m ≤ 2 ^ (16 + e) := hm₁.trans (pow_le_pow_right₀ (by norm_num) (Nat.le_add_right 16 e))
  have hlo : -2 ^ 31 * 2 ^ (16 + e) ≤ v * m := by
    calc -2 ^ 31 * 2 ^ (16 + e) ≤ -2 ^ 31 * m := mul_le_mul_of_nonpos_left hfactor (by norm_num)
      _ ≤ v * m := mul_le_mul_of_nonneg_right hv₀ hm₀
  have hhi : v * m < (2 ^ 31 - 1 + 1) * 2 ^ (16 + e) := by
    have hpos : (0 : Int) < 2 ^ (16 + e) := by positivity
    calc v * m ≤ (2 ^ 31 - 1) * m := mul_le_mul_of_nonneg_right (Int.le_sub_one_of_lt hv₁) hm₀
      _ ≤ (2 ^ 31 - 1) * 2 ^ (16 + e) := mul_le_mul_of_nonneg_left hfactor (by norm_num)
      _ < (2 ^ 31 - 1 + 1) * 2 ^ (16 + e) := mul_lt_mul_of_pos_right (lt_add_one _) hpos
  obtain ⟨hge, hle⟩ := asr_bounds _ _ _ _ hlo hhi
  exact ⟨hge, Int.lt_of_le_sub_one hle⟩

/-- Settles O43. -/
theorem filterHighNeedsNoSaturation : Obligations.FilterHighNeedsNoSaturation := by
  intro rate cutoff res num hlo hhi c
  obtain ⟨hk₀, hk₁⟩ := filtDenom_bounds c.g c.rr
  obtain ⟨hm₀, hm₁⟩ : 0 ≤ c.m ∧ c.m ≤ 2 ^ 16 := rcp1p_mantissa_bounds hk₀ hk₁
  exact asr_mul_mem_s32 hlo hhi hm₀ hm₁ c.e

/-! ### One sample by the rules' pseudocode (R171, R172) -/

theorem k1_eq_k1Of {rate : Word} (h : rate = 44100 ∨ rate = 48000) : k1 rate = k1Of rate := by
  obtain rfl | rfl := h <;> rfl

theorem filtDenom_eq (g rr : Int) : filtDenom g rr = sat 0 (2 ^ 32 - 1) (g * g / 2 ^ 28 + g * rr / 2 ^ 15) :=
  satU32_eq_sat _

/-- The prewarped gain at a supported rate (R171). -/
theorem tanR_filtAngle {rate : Word} (h : rate = 44100 ∨ rate = 48000) (f : FiltUnit) :
    tanR (filtAngle rate (u16 f.cutoff)) = (filtGain rate f).2 := by
  rw [tanR_eq_sat, filtAngle, n2f_eq_noteHz, k1_eq_k1Of h]
  rfl

/-- `filt_coeffs` at a supported rate, with the denominator's reciprocal (R171). -/
theorem filtCoeffs_eq {rate : Word} (h : rate = 44100 ∨ rate = 48000) (f : FiltUnit) :
    filtCoeffs rate (u16 f.cutoff) (u16 f.res) =
      { rr := (filtGain rate f).1, g := (filtGain rate f).2,
        m := (rcp1p (filtDenom (filtGain rate f).2 (filtGain rate f).1)).1,
        e := (rcp1p (filtDenom (filtGain rate f).2 (filtGain rate f).1)).2 } := by
  have hrr : 65536 - min (u16 f.res) resMax = (filtGain rate f).1 := rfl
  rw [filtCoeffs, tanR_filtAngle h, hrr]

/-- One sample at given coefficients (R172). -/
theorem filtStep_eq_filtAfter (c : FiltCoeffs) (f : FiltUnit) : filtStep c f = filtAfter c.rr c.g c.m c.e f := by
  simp only [filtStep, satS32_eq_sat, satS16_eq_sat]
  rfl

/-- Settles O41. -/
theorem filtNextTakesOneSample : Obligations.FiltNextTakesOneSample := by
  refine ⟨fun s ⟨hvalid, hrate⟩ => ?_, errorsN_of_mem (row := (0x30, .filtNext)) (by simp [formatN]),
    errorsNoContext_of_mem (by decide)⟩
  dsimp only
  rw [exec_filtNext hvalid, filtNextOn, filtCoeffs_eq hrate, filtStep_eq_filtAfter, filtDenom_eq]

end Sys2Proof.Proofs
end

section
/-! The rules' second transcription, continued: the envelope's sample (`43_envelope.md` R187 to R189) equals the one that
the statements write in plain integer arithmetic. -/

namespace Sys2Proof.Proofs

open Sys2Proof.Machine Sys2Proof.Claims

theorem halfSr_eq_halfOf {rate : Word} (h : rate = 44100 ∨ rate = 48000) : halfSr rate = halfOf rate := by
  obtain rfl | rfl := h <;> rfl

/-- The two tests of R187 as one choice: the gate test leaves only an envelope in Decay out of the second test. -/
theorem envTransition_eq (st : EnvState) (gate last : Int) : envTransition st gate last =
    if gate ≤ 2048 then .release
    else if st = .decay then .decay
    else if 526131200 < last then .decay else .attack := by
  unfold envTransition envGateTest
  by_cases hgate : gate ≤ gateThreshold
  · rw [if_pos hgate]
    exact (if_pos hgate).symm
  · rw [if_neg hgate]
    refine Eq.trans ?_ (if_neg hgate).symm
    cases st <;> rfl

/-- The setpoint of Decay (R187). -/
theorem envSetpoint_decay (sustain : Int) : envSetpoint .decay sustain = sat 32768 536862720 (sustain * 2 ^ 13) :=
  clamp_eq_sat (by decide) _

/-- Division rounded toward zero as a floor on either side of 0 (R188). -/
theorem tdiv_shl_eq (num k : Int) (n : Nat) :
    tdiv (shl num n) k = if 0 ≤ num then num * 2 ^ n / k else -(-num * 2 ^ n / k) := by
  unfold tdiv shl
  split
  case isTrue hnum => exact Int.tdiv_eq_ediv_of_nonneg (mul_nonneg hnum (by positivity))
  case isFalse hnum =>
    have hneg : 0 ≤ -num * 2 ^ n := mul_nonneg (by omega) (by positivity)
    rw [← Int.tdiv_eq_ediv_of_nonneg hneg, neg_mul, Int.neg_tdiv, neg_neg]

/-- The smoothing law at a supported rate (R188). -/
theorem envSmooth_eq {rate : Word} (h : rate = 44100 ∨ rate = 48000) (rise spPrev sp last : Int) :
    envSmooth rate rise spPrev sp last =
      let k := rise * halfOf rate + 4096
      let num := spPrev + sp - 2 * last
      sat 32768 536862720 (last + if 0 ≤ num then num * 2 ^ 12 / k else -(-num * 2 ^ 12 / k)) := by
  simp only [envSmooth, tdiv_shl_eq, halfSr_eq_halfOf h]
  exact clamp_eq_sat (by decide) _

/-- The output of a signal in range needs no saturation (R189). -/
theorem envOut_of_mem {last : Int} (h : 32768 ≤ last ∧ last ≤ 536862720) : envOut last = last / 2 ^ 13 := by
  obtain ⟨hlo, hhi⟩ := h
  obtain ⟨hout₀, hout₁⟩ := asr_bounds last 4 65535 13 (by omega) (by omega)
  exact clamp_of_mem _ _ _ (by omega) hout₁

/-- One sample of an envelope at a supported rate (R190). -/
theorem envStep_eq_envAfter {rate : Word} (h : rate = 44100 ∨ rate = 48000) (e : EnvUnit) :
    envStep rate e = envAfter rate e := by
  simp only [envStep, envOut_of_mem (envSmooth_bounds _ _ _ _ _)]
  simp only [envSmooth_eq h, envTransition_eq, envAfter, s16, s32]
  generalize (if e.gate.toInt ≤ 2048 then EnvState.release else _) = st
  cases st with
  | release => rfl
  | attack => rfl
  | decay =>
    rw [envSetpoint_decay]
    rfl

end Sys2Proof.Proofs
end

section
/-! The envelopes: O44, O45, O46 (`43_envelope.md` R187 to R192). -/

namespace Sys2Proof.Proofs

open Sys2Proof.Machine Sys2Proof.Claims

/-! ### The commands as functions of the state -/

theorem exec_envNext (e : Fin 4) {s : State} (h : ctxValid s.status = true) :
    exec (.envNext (BitVec.ofNat 8 e)) s = .next (envNextOn e s) := by
  have hx : exec (.envNext (BitVec.ofNat 8 e)) s = execEnvNext (BitVec.ofNat 8 e) s := rfl
  rw [hx, execEnvNext, onUnit_fin (by decide), inContext_of_valid _ _ _ h]

theorem exec_envRst (e : Fin 4) (s : State) :
    exec (.envRst (BitVec.ofNat 8 e)) s = .next (setEnv e (envDefault (getEnv e s)) s) :=
  congrArg Host.Outcome.next (onUnit_fin (by decide) _ e _ s)

/-- Settles O44. -/
theorem envNextTakesOneSample : Obligations.EnvNextTakesOneSample := by
  refine ⟨fun s e ⟨hvalid, hrate⟩ => ?_, errorsU_of_mem (row := (0x40, 4, .envNext)) (by simp [formatU]),
    errorsNoContext_of_mem (by decide)⟩
  rw [exec_envNext e hvalid, envNextOn, envStep_eq_envAfter hrate]

/-- Settles O45. -/
theorem envRstGivesTheDefault : Obligations.EnvRstGivesTheDefault :=
  ⟨fun s e => exec_envRst e s, errorsU_of_mem (row := (0x4F, 4, .envRst)) (by simp [formatU])⟩

/-! ### The direction of a sample (R192) -/

theorem halfSr_nonneg (rate : Word) : 0 ≤ halfSr rate := by
  unfold halfSr; split
  · decide
  · split
    · decide
    · exact (u16_bounds _).1

theorem envRise_nonneg (st : EnvState) (e : EnvUnit) : 0 ≤ envRise st e := by
  cases st with
  | release => exact (u16_bounds e.release).1
  | attack => exact (u16_bounds e.attack).1
  | decay => exact (u16_bounds e.decay).1

/-- The divisor of R188 is not negative, at every rate. -/
theorem smoothDivisor_nonneg (rate : Word) {rise : Int} (h : 0 ≤ rise) : 0 ≤ rise * halfSr rate + 4096 :=
  add_nonneg (mul_nonneg h (halfSr_nonneg rate)) (by decide)

theorem le_clamp {v w lo hi : Int} (hv : v ≤ w) (hhi : v ≤ hi) : v ≤ clamp w lo hi := by
  unfold clamp; split
  · omega
  · split <;> omega

theorem clamp_le {v w lo hi : Int} (hv : w ≤ v) (hlo : lo ≤ v) : clamp w lo hi ≤ v := by
  unfold clamp; split
  · omega
  · split <;> omega

theorem tdiv_nonpos {a b : Int} (ha : a ≤ 0) (hb : 0 ≤ b) : tdiv a b ≤ 0 := by
  have hneg : 0 ≤ (-a).tdiv b := Int.tdiv_nonneg (by omega) hb
  rw [Int.neg_tdiv] at hneg
  exact neg_nonneg.1 hneg

/-- Under setpoints that lie above it on the average the signal does not fall. -/
theorem le_envSmooth (rate : Word) {rise spPrev sp last : Int} (hrise : 0 ≤ rise) (hnum : 2 * last ≤ spPrev + sp)
    (hmax : last ≤ signalMax) : last ≤ envSmooth rate rise spPrev sp last := by
  have hdelta : 0 ≤ tdiv (shl (spPrev + sp - 2 * last) 12) (rise * halfSr rate + 4096) :=
    Int.tdiv_nonneg (mul_nonneg (by omega) (by positivity)) (smoothDivisor_nonneg rate hrise)
  exact le_clamp (by omega) hmax

/-- Over setpoints that lie below it on the average the signal does not rise. -/
theorem envSmooth_le (rate : Word) {rise spPrev sp last : Int} (hrise : 0 ≤ rise) (hnum : spPrev + sp ≤ 2 * last)
    (hmin : signalMin ≤ last) : envSmooth rate rise spPrev sp last ≤ last := by
  have hdelta : tdiv (shl (spPrev + sp - 2 * last) 12) (rise * halfSr rate + 4096) ≤ 0 :=
    tdiv_nonpos (mul_nonpos_of_nonpos_of_nonneg (by omega) (by positivity)) (smoothDivisor_nonneg rate hrise)
  exact clamp_le (by omega) hmin

/-- The signal after a sample, read back, by the state of that sample. -/
theorem envStep_last {rate : Word} {e : EnvUnit} {st : EnvState} (h : (envStep rate e).state = st) :
    (envStep rate e).last.toInt =
      envSmooth rate (envRise st e) e.spPrev.toInt (envSetpoint st (u16 e.sustain)) e.last.toInt := by
  subst h
  obtain ⟨hlo, hhi⟩ := envSmooth_bounds rate (envRise (envStep rate e).state e) e.spPrev.toInt
    (envSetpoint (envStep rate e).state (u16 e.sustain)) e.last.toInt
  exact s32_to32 _ (hlo.trans' (by decide)) (hhi.trans (by decide))

theorem envStep_attack_rises (rate : Word) {e : EnvUnit} (he : EnvLegal e) (hst : (envStep rate e).state = .attack)
    (hsp : e.spPrev = 0x1FFFE000) : e.last.toInt ≤ (envStep rate e).last.toInt := by
  obtain ⟨⟨-, hmax⟩, -, -⟩ := he
  have hprev : e.spPrev.toInt = 536862720 := congrArg BitVec.toInt hsp
  have hset : envSetpoint .attack (u16 e.sustain) = 536862720 := rfl
  rw [envStep_last hst, hprev, hset]
  exact le_envSmooth rate (envRise_nonneg _ _) (by omega) hmax

theorem envStep_release_falls (rate : Word) {e : EnvUnit} (he : EnvLegal e) (hst : (envStep rate e).state = .release)
    (hsp : e.spPrev = 0x00008000) : (envStep rate e).last.toInt ≤ e.last.toInt := by
  obtain ⟨⟨hmin, -⟩, -, -⟩ := he
  have hprev : e.spPrev.toInt = 32768 := congrArg BitVec.toInt hsp
  have hset : envSetpoint .release (u16 e.sustain) = 32768 := rfl
  rw [envStep_last hst, hprev, hset]
  exact envSmooth_le rate (envRise_nonneg _ _) (by omega) hmin

/-- The outputs of legal envelopes are ordered as their signals are (R189). -/
theorem envOut_mono {e e' : EnvUnit} (he : EnvLegal e) (he' : EnvLegal e') (h : e.last.toInt ≤ e'.last.toInt) :
    e.out.toNat ≤ e'.out.toNat := by
  obtain ⟨-, -, hout⟩ := he
  obtain ⟨-, -, hout'⟩ := he'
  omega

/-- Settles O46: with the previous setpoint that of the state, the signal lies on one side of both setpoints. -/
theorem envelopeIsMonotoneWithinAState : Obligations.EnvelopeIsMonotoneWithinAState := by
  intro s e hvalid he
  refine ⟨envNextOn e s, exec_envNext e hvalid, ?_⟩
  rw [envNextOn, getEnv_setEnv_same]
  have he' : EnvLegal (envStep s.ctxRate (getEnv e s)) := envLegal_envStep _ _
  constructor
  · intro hst hsp
    have hlast := envStep_attack_rises _ he hst hsp
    exact ⟨hlast, envOut_mono he he' hlast⟩
  · intro hst hsp
    have hlast := envStep_release_falls _ he hst hsp
    exact ⟨hlast, envOut_mono he' he hlast⟩

end Sys2Proof.Proofs
end

section
/-! The generator of an LFO: O49, O50 (`44_lfo.md` R203 to R205). A step is linear over exclusive or, so what two states
step to differs by what their difference steps to. -/

namespace Sys2Proof.Proofs

open Sys2Proof.Machine Sys2Proof.Claims

theorem xor_xor_xor_swap (a b c d : Prng) : (a ^^^ b) ^^^ (c ^^^ d) = (a ^^^ c) ^^^ (b ^^^ d) := by
  ac_rfl

theorem xor_shiftLeft_linear (p q : Prng) (n : Nat) :
    (p ^^^ q) ^^^ ((p ^^^ q) <<< n) = (p ^^^ (p <<< n)) ^^^ (q ^^^ (q <<< n)) := by
  rw [BitVec.shiftLeft_xor_distrib, xor_xor_xor_swap]

theorem xor_ushiftRight_linear (p q : Prng) (n : Nat) :
    (p ^^^ q) ^^^ ((p ^^^ q) >>> n) = (p ^^^ (p >>> n)) ^^^ (q ^^^ (q >>> n)) := by
  rw [BitVec.ushiftRight_xor_distrib, xor_xor_xor_swap]

theorem prngStep_xor (p q : Prng) : prngStep (p ^^^ q) = prngStep p ^^^ prngStep q := by
  simp only [prngStep, xor_shiftLeft_linear, xor_ushiftRight_linear]

theorem prngStep_injective : Function.Injective prngStep := by
  intro p q h
  by_contra hne
  have hdiff : p ^^^ q ≠ 0 := fun hzero => hne (BitVec.xor_eq_zero_iff.1 hzero)
  exact prngStep_ne_zero hdiff (by rw [prngStep_xor, h]; exact BitVec.xor_self)

/-- Settles O49. -/
theorem generatorStepIsInvertible : Obligations.GeneratorStepIsInvertible :=
  ⟨fun _ _ h => prngStep_injective h, fun _ => prngStep_ne_zero⟩

/-! ### The generator on numbers -/

theorem toNat_prngStep (p : Prng) : (prngStep p).toNat = xorshift p.toNat := by
  simp only [prngStep, xorshift, BitVec.toNat_xor, BitVec.toNat_shiftLeft, BitVec.toNat_ushiftRight,
    Nat.shiftLeft_eq, Nat.shiftRight_eq_div_pow]

/-- A bit of a state reaches at most 30 places up in one step. -/
theorem xorshift_lt {p : Nat} (h : p < 2 ^ 18) : xorshift p < 2 ^ 48 := by
  have ha : p ^^^ (p * 2 ^ 13 % 2 ^ 64) < 2 ^ 31 := Nat.xor_lt_two_pow (by omega) (by omega)
  have hb := Nat.xor_lt_two_pow ha ((Nat.div_le_self _ (2 ^ 7)).trans_lt ha)
  exact Nat.xor_lt_two_pow (by omega) (by omega)

theorem prngSample_eq (p : Prng) : prngSample p = BitVec.ofNat 16 (p.toNat / 2 ^ 48) :=
  congrArg (BitVec.ofNat 16) (Nat.shiftRight_eq_div_pow _ _)

theorem prngSample_xor (p q : Prng) : prngSample (p ^^^ q) = prngSample p ^^^ prngSample q :=
  BitVec.extractLsb'_xor

/-- Bits 17:0 of a state do not reach the sample of the next one. -/
theorem prngSample_prngStep_of_ushiftRight {p q : Prng} (h : p >>> 18 = q >>> 18) :
    prngSample (prngStep p) = prngSample (prngStep q) := by
  have hshift : (p ^^^ q) >>> 18 = 0 := by
    rw [BitVec.ushiftRight_xor_distrib, h]
    exact BitVec.xor_self
  have hlow : (p ^^^ q).toNat < 2 ^ 18 := by
    have hnat := congrArg BitVec.toNat hshift
    rw [BitVec.toNat_ushiftRight, Nat.shiftRight_eq_div_pow] at hnat
    exact (Nat.div_eq_zero_iff_lt (by decide)).1 hnat
  have hsample : prngSample (prngStep (p ^^^ q)) = 0 := by
    rw [prngSample_eq, toNat_prngStep, Nat.div_eq_of_lt (xorshift_lt hlow)]
    rfl
  rw [prngStep_xor, prngSample_xor] at hsample
  exact BitVec.xor_eq_zero_iff.1 hsample

/-! ### Seeding (R205) -/

theorem seedState_of_ne {seed : Prng} (h : seed ≠ prngScramble) : seedState seed = seed ^^^ prngScramble :=
  if_neg fun hzero => h (BitVec.xor_eq_zero_iff.1 hzero)

theorem toNat_seedState (seed : Prng) : (seedState seed).toNat =
    if seed.toNat ^^^ 0x9E3779B97F4A7C15 = 0 then 0x9E3779B97F4A7C15 else seed.toNat ^^^ 0x9E3779B97F4A7C15 := by
  have hxor : seed.toNat ^^^ 0x9E3779B97F4A7C15 = (seed ^^^ prngScramble).toNat :=
    (BitVec.toNat_xor seed prngScramble).symm
  have hzero : (seed ^^^ prngScramble).toNat = 0 ↔ seed ^^^ prngScramble = 0 :=
    (BitVec.toNat_eq (y := 0)).symm
  rw [hxor, seedState, apply_ite BitVec.toNat]
  simp only [hzero]
  rfl

/-- Settles O50. -/
theorem firstSampleIgnoresLowSeedBits : Obligations.FirstSampleIgnoresLowSeedBits := by
  intro p q hp hq h
  rw [seedState_of_ne hp, seedState_of_ne hq]
  exact prngSample_prngStep_of_ushiftRight (by
    rw [BitVec.ushiftRight_xor_distrib, BitVec.ushiftRight_xor_distrib, h])

end Sys2Proof.Proofs
end

section
/-! The rules' second transcription, continued: the LFO's sample (`44_lfo.md` R201, R202, R207, R210 to R214) equals the
one that the statements write in plain integer arithmetic. -/

namespace Sys2Proof.Proofs

open Sys2Proof.Machine Sys2Proof.Claims

/-! ### Fields and register pairs as numbers -/

theorem getLsbD_eq_decide (v : BitVec 16) (k : Nat) : v.getLsbD k = decide (v.toNat / 2 ^ k % 2 = 1) :=
  Nat.testBit_eq_decide_div_mod_eq

theorem toNat_append_words (hi lo : Word) : (hi ++ lo).toNat = hi.toNat * 2 ^ 32 + lo.toNat := by
  rw [BitVec.toNat_append, ← Nat.shiftLeft_add_eq_or_of_lt lo.isLt, Nat.shiftLeft_eq]

theorem generator_eq (l : LfoUnit) : generator l = (lfoPrng l).toNat := (toNat_append_words _ _).symm

theorem setPrng_eq (p : Prng) (l : LfoUnit) : setPrng p l =
    { l with prngHi := BitVec.ofNat 32 (p.toNat / 2 ^ 32), prngLo := BitVec.ofNat 32 p.toNat } := by
  have hhi : p.extractLsb' 32 32 = BitVec.ofNat 32 (p.toNat / 2 ^ 32) :=
    congrArg (BitVec.ofNat 32) (Nat.shiftRight_eq_div_pow _ _)
  rw [setPrng, hhi]
  rfl

/-! ### Retrigger, waveform and depth (R202, R211 to R213) -/

theorem lfoStartPhase_eq (l : LfoUnit) : lfoStartPhase l =
    if l.options.toNat / 512 % 2 = 1 ∧ decide (2048 < l.gate.toInt) = true ∧ l.prevGate = false then 0
    else l.phase.toInt := by
  have hretrig : optRetrig l.options = decide (l.options.toNat / 512 % 2 = 1) := getLsbD_eq_decide _ 9
  have hgate : lfoGateNow l = decide (2048 < l.gate.toInt) := rfl
  simp only [lfoStartPhase, hretrig, hgate, Bool.and_eq_true, Bool.not_eq_true', decide_eq_true_iff]
  rfl

theorem lfoHalfTurns_eq (phase : Int) :
    lfoHalfTurns phase = sat (-2 ^ 28) (2 ^ 28 - 1) (phase * 1367130551 / 2 ^ 32) :=
  clamp_eq_sat (by decide) _

theorem waveOf_sine {code : Nat} (h : code ∉ [1, 2, 3, 4, 5]) (q r0 r1 : Int) : waveOf code q r0 r1 = sine q / 4 := by
  unfold waveOf
  split
  case h_6 => rfl
  all_goals exact absurd (by decide) h

theorem waveSquare_eq (q : Int) : waveSquare q = if q < 0 then -4096 else 4096 := by
  rw [waveSquare, ← ite_not]
  simp only [not_le]

theorem lfoWave_glide (q r0 r1 : Int) : lfoWave .sampleGlide q r0 r1 = waveOf 5 q r0 r1 := by
  rw [lfoWave, clamp_eq_sat (by decide)]
  rfl

/-- Every code has its waveform, and a code that names none is the sine (R201). -/
theorem lfoWave_optWave (opt : BitVec 16) (q r0 r1 : Int) :
    lfoWave (optWave opt) q r0 r1 = waveOf (opt.toNat % 256) q r0 r1 := by
  have hcode : opt.toNat % 256 = (opt.extractLsb' 0 8).toNat := by
    rw [BitVec.extractLsb'_toNat, Nat.shiftRight_zero]
  rw [hcode, optWave]
  generalize opt.extractLsb' 0 8 = code
  split
  case h_1 => exact waveSquare_eq q
  case h_2 => exact satS16_eq_sat _
  case h_3 => exact satS16_eq_sat _
  case h_4 => rfl
  case h_5 => exact lfoWave_glide q r0 r1
  case h_6 h₁ h₂ h₃ h₄ h₅ =>
    have hne {k : BitVec 8} (h : code ≠ k) : code.toNat ≠ k.toNat := fun heq => h (BitVec.eq_of_toNat_eq heq)
    have hsine : code.toNat ∉ [1, 2, 3, 4, 5] := by
      simp only [List.mem_cons, List.not_mem_nil, or_false, not_or]
      exact ⟨hne h₁, hne h₂, hne h₃, hne h₄, hne h₅⟩
    rw [waveOf_sine hsine, ← sinpi_eq_sine]
    rfl

theorem lfoScale_eq (opt : BitVec 16) (v depth : Int) : lfoScale (optBipolar opt) v depth =
    (if opt.toNat / 256 % 2 = 1 then v else (v + 4096) / 2) * depth / 2 ^ 16 := by
  have hbipolar : optBipolar opt = decide (opt.toNat / 256 % 2 = 1) := getLsbD_eq_decide _ 8
  simp only [lfoScale, hbipolar, decide_eq_true_iff]
  rfl

/-! ### Advance (R207, R210, R214) -/

theorem lfoStepSize_eq {rate : Word} (h : rate = 44100 ∨ rate = 48000) (freq : BitVec 16) :
    lfoStepSize rate (u16 freq) = (freq.toNat : Int) * k1Of rate / 2 ^ 11 := by
  rw [lfoStepSize, k1_eq_k1Of h]
  rfl

theorem lfoAdvance_eq {rate : Word} (h : rate = 44100 ∨ rate = 48000) (phase : Int) (l : LfoUnit) :
    lfoAdvance rate phase l =
      let ph := phase + (l.freq.toNat : Int) * k1Of rate / 2 ^ 11
      let p := xorshift (generator l)
      if ph < 843314857 then { l with phase := BitVec.ofInt 32 ph }
      else { l with
              phase := BitVec.ofInt 32 (ph - 1686629714)
              rand1 := l.rand0
              rand0 := BitVec.ofNat 16 (p / 2 ^ 48)
              prngHi := BitVec.ofNat 32 (p / 2 ^ 32)
              prngLo := BitVec.ofNat 32 p } := by
  simp only [lfoAdvance, lfoStepSize_eq h, setPrng_eq, prngSample_eq, toNat_prngStep, generator_eq, ← not_lt, ite_not]
  rfl

/-- One sample of an LFO at a supported rate (R210). -/
theorem lfoStep_eq_lfoAfter {rate : Word} (h : rate = 44100 ∨ rate = 48000) (l : LfoUnit) :
    lfoStep rate l = lfoAfter rate l := by
  simp only [lfoStep, lfoAdvance_eq h, lfoOutput, lfoWave_optWave, lfoScale_eq, lfoHalfTurns_eq, lfoStartPhase_eq]
  rfl

end Sys2Proof.Proofs
end

section
/-! The LFOs: O47, O48, O51 (`44_lfo.md` R201 to R214). -/

namespace Sys2Proof.Proofs

open Sys2Proof.Machine Sys2Proof.Claims

/-! ### The commands as functions of the state -/

theorem exec_lfoNext (l : Fin 2) {s : State} (h : ctxValid s.status = true) :
    exec (.lfoNext (BitVec.ofNat 8 l)) s = .next (lfoNextOn l s) := by
  have hx : exec (.lfoNext (BitVec.ofNat 8 l)) s = execLfoNext (BitVec.ofNat 8 l) s := rfl
  rw [hx, execLfoNext, onUnit_fin (by decide), inContext_of_valid _ _ _ h]

theorem exec_lfoSeed (l : Fin 2) (s : State) :
    exec (.lfoSeed (BitVec.ofNat 8 l)) s = .next (setLfo l (lfoConstruct (getLfo l s)) s) :=
  congrArg Host.Outcome.next (onUnit_fin (by decide) _ l _ s)

/-- Settles O47. -/
theorem lfoNextTakesOneSample : Obligations.LfoNextTakesOneSample := by
  refine ⟨fun s l ⟨hvalid, hrate⟩ => ?_, errorsU_of_mem (row := (0x50, 2, .lfoNext)) (by simp [formatU]),
    errorsNoContext_of_mem (by decide)⟩
  rw [exec_lfoNext l hvalid, lfoNextOn, lfoStep_eq_lfoAfter hrate]

/-! ### Seeding (R205, R206) -/

theorem generator_lfoConstruct (l : LfoUnit) : generator (lfoConstruct l) =
    let x := (l.seedHi.toNat * 2 ^ 32 + l.seedLo.toNat) ^^^ 0x9E3779B97F4A7C15
    if x = 0 then 0x9E3779B97F4A7C15 else x := by
  rw [generator_eq, lfoConstruct, lfoPrng_setPrng, toNat_seedState, lfoSeedOf, toNat_append_words]

theorem lfoConstruct_reset : lfoConstruct LfoUnit.reset = LfoUnit.reset := by decide

theorem getLfo_stateReset (l : Fin 2) : getLfo l State.reset = LfoUnit.reset :=
  match l with | 0 => rfl | 1 => rfl

/-- Settles O48. -/
theorem lfoSeedConstructs : Obligations.LfoSeedConstructs := by
  refine ⟨fun s l => ⟨_, exec_lfoSeed l s, ?_, ?_⟩, fun l => ?_,
    errorsU_of_mem (row := (0x5F, 2, .lfoSeed)) (by simp [formatU])⟩
  · rw [getLfo_setLfo_same, generator_lfoConstruct]
  · rw [getLfo_setLfo_same]
    rfl
  · have hreset : lfoConstruct (getLfo l State.reset) = getLfo l State.reset := by
      rw [getLfo_stateReset, lfoConstruct_reset]
    rw [exec_lfoSeed, hreset, setLfo_getLfo_same]

/-! ### The retrigger (R202, R214) -/

theorem setLfo_setLfo_same (l : Fin 2) (x y : LfoUnit) (s : State) : setLfo l x (setLfo l y s) = setLfo l x s :=
  match l with | 0 => rfl | 1 => rfl

/-- The three conditions of a retrigger (R202): the bit, the gate above the threshold, the previous gate low. -/
def Retriggers (l : LfoUnit) : Prop := l.options.getLsbD 9 = true ∧ 2048 < l.gate.toInt ∧ l.prevGate = false

theorem lfoGateNow_of_retriggers {l : LfoUnit} (h : Retriggers l) : lfoGateNow l = true := by
  obtain ⟨-, hgate, -⟩ := h
  exact decide_eq_true hgate

theorem lfoStartPhase_of_retriggers {l : LfoUnit} (h : Retriggers l) : lfoStartPhase l = 0 := by
  have hnow := lfoGateNow_of_retriggers h
  obtain ⟨hbit, -, hprev⟩ := h
  have hretrig : optRetrig l.options = true := hbit
  rw [lfoStartPhase, hretrig, hnow, hprev]
  rfl

/-- One increment past 0 does not wrap (R207, R214). -/
theorem lfoAdvance_zero (rate : Word) (l : LfoUnit) :
    lfoAdvance rate 0 l = { l with phase := to32 (lfoStepSize rate (u16 l.freq)) } := by
  obtain ⟨-, hstep⟩ := lfoStepSize_bounds rate l.freq
  have hpi : pi28 = 843314857 := rfl
  rw [lfoAdvance, zero_add, if_neg (by omega)]

/-- The registers after the sample of a retrigger: the old phase is not among what they are made of. -/
theorem lfoStep_of_retriggers (rate : Word) {l : LfoUnit} (h : Retriggers l) : lfoStep rate l =
    { l with out := to16 (lfoOutput 0 l), prevGate := true, phase := to32 (lfoStepSize rate (u16 l.freq)) } := by
  rw [lfoStep, lfoStartPhase_of_retriggers h, lfoGateNow_of_retriggers h, lfoAdvance_zero]

theorem lfoStep_phase_irrelevant (rate : Word) {l : LfoUnit} (h : Retriggers l) (phase : Word) :
    lfoStep rate { l with phase := phase } = lfoStep rate l := by
  have h' : Retriggers { l with phase := phase } := h
  rw [lfoStep_of_retriggers rate h, lfoStep_of_retriggers rate h']
  rfl

theorem toInt_phase_of_retriggers {rate : Word} (hrate : rate = 44100 ∨ rate = 48000) {l : LfoUnit}
    (h : Retriggers l) : (lfoStep rate l).phase.toInt = l.freq.toNat * k1Of rate / 2 ^ 11 := by
  obtain ⟨hstep₀, hstep₁⟩ := lfoStepSize_bounds rate l.freq
  rw [lfoStep_of_retriggers rate h, ← lfoStepSize_eq hrate]
  exact s32_to32 _ (by omega) (by omega)

/-- Settles O51. -/
theorem retriggerRestartsThePhase : Obligations.RetriggerRestartsThePhase := by
  rintro s _ l ⟨hvalid, hrate⟩ rfl hbit hgate hprev
  have hretrig : Retriggers (getLfo l s) := ⟨hbit, hgate, hprev⟩
  have hstep := lfoStep_of_retriggers s.ctxRate hretrig
  refine ⟨lfoNextOn l s, exec_lfoNext l hvalid, ?_, ?_⟩
  · rw [exec_lfoNext l (by rwa [setLfo_status]), lfoNextOn, setLfo_ctxRate, getLfo_setLfo_same, setLfo_setLfo_same,
      lfoStep_phase_irrelevant _ hretrig]
    rfl
  · rw [lfoNextOn, getLfo_setLfo_same]
    refine ⟨toInt_phase_of_retriggers hrate hretrig, ?_⟩
    rw [hstep]
    exact ⟨rfl, rfl, rfl, rfl⟩

end Sys2Proof.Proofs
end

section
/-! The system operations: O8, O10, O23 (`45_system.md` R220, R221, R224). A write to `CTX_RATE` makes a context or is
refused; a write to `CMD` records the first check that fails or executes the command. -/

namespace Sys2Proof.Proofs

open Sys2Proof.Machine Sys2Proof.Claims

/-! ### Context construction (R224) -/

theorem step_of_wr_ctxRate {s : State} {d : Word} {rest : List HostEvent} (h : s.host = .wr 0x00 d :: rest) :
    step s = .next (writeCtxRate d { s with host := rest }) := step_of_wr h

theorem writeCtxRate_of_supported {d : Word} (h : d = 44100 ∨ d = 48000) (s : State) :
    writeCtxRate d s = { s with ctxRate := d, status := setCtxValid s.status } := if_pos h

theorem writeCtxRate_of_unsupported {d : Word} (h₁ : d ≠ 44100) (h₂ : d ≠ 48000) (s : State) :
    writeCtxRate d s = report .rate d s := if_neg (not_or.2 ⟨h₁, h₂⟩)

/-- Making a context sets bit 0 of `STATUS` alone; past the 13 bits both sides read 0. -/
theorem getLsbD_setCtxValid_of_pos (st : BitVec 13) {k : Nat} (hk : 0 < k) :
    (setCtxValid st).getLsbD k = st.getLsbD k := by
  obtain hlt | hge := Nat.lt_or_ge k 13
  · rw [getLsbD_setCtxValid st k hlt, if_neg hk.ne']
  · rw [BitVec.getLsbD_of_ge _ _ hge, BitVec.getLsbD_of_ge _ _ hge]

/-- Settles O8. -/
theorem writingTheRateMakesTheContext : Obligations.WritingTheRateMakesTheContext := by
  intro s d rest hs
  have hstep := step_of_wr_ctxRate hs
  constructor
  · intro hd
    rw [writeCtxRate_of_supported hd] at hstep
    exact ⟨_, hstep, rfl, ctxValid_setCtxValid s.status, fun _ => getLsbD_setCtxValid_of_pos s.status, rfl⟩
  · intro h₁ h₂
    rw [writeCtxRate_of_unsupported h₁ h₂] at hstep
    exact stepRecords_of_step_eq (e := .rate) hstep

/-! ### The performing of a command word (R220) -/

/-- A per-sample command's word written without a context records `NoCtxError`. -/
theorem stepRecords_without_context {s : State} {c : Word} {rest : List HostEvent}
    (hs : s.host = .wr cmdNum c :: rest) {i : Instr} (hi : decode c = .command i) (hopc : opcOf c ∈ perSample)
    (hctx : ctxValid s.status = false) : StepRecords 4 11 c s { s with host := rest } := by
  obtain ⟨hw, rfl⟩ := encode_of_decode_command hi
  have hneeds : i.needsContext = true := (opcOf_encode_mem_perSample i).1 hopc
  exact stepRecords_of_step_eq (e := .noCtx)
    ((step_of_command s _ i rest hs hi).trans (exec_without_context hw hneeds hctx))

/-- A decoded command reports no error when it has the context it needs: its unit exists. -/
theorem not_execReports_of_decode {c : Word} {i : Instr} (hi : decode c = .command i) {s : State}
    (hctx : opcOf c ∈ perSample → ctxValid s.status = true) : ¬ExecReports i s := by
  obtain ⟨hw, rfl⟩ := encode_of_decode_command hi
  exact not_execReports hw fun hneeds => hctx ((opcOf_encode_mem_perSample i).2 hneeds)

/-- A command that reports no error goes on and keeps `STATUS` and `ERRINFO`. -/
theorem exec_keeps_status {i : Instr} {s : State} (hno : ¬ExecReports i s) :
    ∃ t, exec i s = .next t ∧ t.status = s.status ∧ t.errInfo = s.errInfo := by
  obtain ⟨hreports, -⟩ | ⟨-, f, hf, hx⟩ := exec_cases i s
  · exact absurd hreports hno
  · obtain ⟨-, hstatus, herr, -⟩ := acts_system hf s
    exact ⟨f s, hx, hstatus, herr⟩

/-- Settles O10: the three refusals in the order of the checks, and the execution. -/
theorem commandsArePerformed : Obligations.CommandsArePerformed := fun s c rest hs =>
  ⟨fun _ => stepRecords_of_illegal hs, fun _ => stepRecords_of_badUnit hs,
    fun _ => stepRecords_without_context hs,
    fun i hi hctx =>
      ⟨step_of_command s c i rest hs hi,
        exec_keeps_status (not_execReports_of_decode (s := { s with host := rest }) hi hctx)⟩⟩

/-! ### `NOP` (R221) -/

/-- Settles O23. -/
theorem nopDoesNothing : Obligations.NopDoesNothing := by
  have hrow : (0x00, Instr.nop) ∈ formatN := List.mem_cons_self
  exact ⟨fun _ => rfl, decode_encode_of_wellFormed .nop rfl, errorsN_of_mem hrow⟩

end Sys2Proof.Proofs
end

section
/-! The errors of the host's transactions: O9, O13, O18 (`60_exceptions.md` R240 to R243). The checks of a transaction are
read off the register map and the decoder, in the order of R243; no step but a second host's stops the block; and an error
bit, once set, is still set at the end of a run without a hardware reset. -/

namespace Sys2Proof.Proofs

open Sys2Proof.Machine Sys2Proof.Claims

/-! ### The checks of a command word (R243 3a to 3c) -/

theorem exists_decode_illegal {c : Word} (h : NoCommand c) : ∃ why, decode c = .illegal why := by
  obtain hun | ⟨hN, hbad⟩ | ⟨hU, himm⟩ | ⟨hP, hbad⟩ := h
  · exact ⟨_, decode_of_not_assigned hun⟩
  · obtain ⟨row, hrow, hc⟩ := List.mem_map.1 hN
    exact ⟨_, (decode_of_formatN hrow hc.symm).trans (if_neg (not_and_or.2 hbad))⟩
  · obtain ⟨row, hrow, hc⟩ := List.mem_map.1 hU
    exact ⟨_, (decode_of_formatU hrow hc.symm).trans (if_pos himm)⟩
  · exact ⟨_, (decode_of_opcPair hP).trans (if_neg (by omega))⟩

theorem exists_decode_badUnit {c : Word} (h : NoUnit c) : ∃ i, decode c = .badUnit i := by
  obtain ⟨hcmd, row, hrow, hc, hcount⟩ := h
  have himm : ¬immOf c ≠ 0 := fun hne =>
    hcmd (.inr (.inr (.inl ⟨List.mem_map.2 ⟨row, hrow, hc.symm⟩, hne⟩)))
  exact ⟨_, (decode_of_formatU hrow hc).trans ((if_neg himm).trans (if_neg hcount.not_gt))⟩

/-! ### The check of the address (R243 1) -/

/-- A register's number has a row in the table, with the register's access. -/
theorem exists_row_of_regAt {a : RegNum} {r : Reg} (h : regAt a = some r) :
    ∃ row ∈ registerMap, row.1 = a.toNat ∧ row.2.2.1 = r.access := by
  obtain ⟨row, hrow, ha⟩ := List.mem_map.1 (mem_registerMap_of_mapped a (by simp [h]))
  obtain ⟨hreg, haccess⟩ := regAt_of_mem_registerMap hrow ha
  obtain rfl : r = row.2.1 := Option.some.inj (h.symm.trans hreg)
  exact ⟨row, hrow, ha, haccess.symm⟩

/-- Only the number of `CTX_RATE` names a register whose write is checked. -/
theorem eq_zero_of_access_rwChecked {a : RegNum} {r : Reg} (h : regAt a = some r) (hchecked : r.access = .rwChecked) :
    a = 0x00 := by
  have hnumber : ∀ row ∈ registerMap, row.2.2.1 = .rwChecked → row.1 = 0 := by decide
  obtain ⟨row, hrow, ha, haccess⟩ := exists_row_of_regAt h
  exact BitVec.eq_of_toNat_eq (ha.symm.trans (hnumber row hrow (haccess.trans hchecked)))

theorem exists_regAt_of_not_unmapped {a : RegNum} (h : ¬Unmapped a) : ∃ r, regAt a = some r :=
  Option.ne_none_iff_exists'.1 fun hnone => h ((regAt_eq_none_iff a).1 hnone)

/-- A writable number other than those of `CTX_RATE` and `CMD` names a register that just stores. -/
theorem exists_rw_of_writable {a : RegNum} (hmapped : ¬Unmapped a) (hro : ¬ReadOnly a) (hrate : a ≠ 0x00)
    (hcmd : a ≠ 0x03) : ∃ r, regAt a = some r ∧ r.access = .rw := by
  obtain ⟨r, hr⟩ := exists_regAt_of_not_unmapped hmapped
  refine ⟨r, hr, ?_⟩
  cases haccess : r.access with
  | ro =>
    obtain ⟨row, hrow, ha, hrowAccess⟩ := exists_row_of_regAt hr
    exact absurd ⟨row, hrow, ha, hrowAccess.trans haccess⟩ hro
  | wo => exact absurd (eq_cmdNum_of_access_wo hr haccess) hcmd
  | rwChecked => exact absurd (eq_zero_of_access_rwChecked hr haccess) hrate
  | rw => rfl

/-! ### Transactions that pass every check -/

@[simp] theorem writeReg_errInfo (r : Reg) (d : Word) (s : State) : (writeReg r d s).errInfo = s.errInfo := by
  cases r <;> simp [writeReg]

theorem step_of_wr_writable_keeps_status {s : State} {a : RegNum} {d : Word} {rest : List HostEvent}
    (hs : s.host = .wr a d :: rest) (hmapped : ¬Unmapped a) (hro : ¬ReadOnly a) (hrate : a ≠ 0x00) (hcmd : a ≠ 0x03) :
    ∃ t, step s = .next t ∧ t.status = s.status ∧ t.errInfo = s.errInfo := by
  obtain ⟨r, hr, hrw⟩ := exists_rw_of_writable hmapped hro hrate hcmd
  exact ⟨_, (step_of_wr hs).trans (hostWrite_of_rw hr hrw d _), writeReg_status r d _, writeReg_errInfo r d _⟩

theorem step_of_rd_readable_keeps_status {s : State} {a : RegNum} {rest : List HostEvent}
    (hs : s.host = .rd a :: rest) (hmapped : ¬Unmapped a) (hcmd : a ≠ 0x03) :
    ∃ t, step s = .next t ∧ t.status = s.status ∧ t.errInfo = s.errInfo := by
  obtain ⟨r, hr⟩ := exists_regAt_of_not_unmapped hmapped
  exact ⟨_, (step_of_rd hs).trans (congrArg _ (hostRead_of_mapped hr hcmd _)), answer_status _ _, answer_errInfo _ _⟩

theorem step_of_supported_rate_keeps_errors {s : State} {d : Word} {rest : List HostEvent}
    (hs : s.host = .wr 0x00 d :: rest) (hd : d = 44100 ∨ d = 48000) :
    ∃ t, step s = .next t ∧ (∀ k, 0 < k → t.status.getLsbD k = s.status.getLsbD k) ∧ t.errInfo = s.errInfo := by
  obtain ⟨haccepted, -⟩ := writingTheRateMakesTheContext s d rest hs
  obtain ⟨t, hstep, -, -, hstatus, ht⟩ := haccepted hd
  exact ⟨t, hstep, hstatus, by rw [ht]⟩

/-! ### The first failing check -/

/-- Settles O9: each clause is one check of R243, by the register map, by the checked write of the rate (O8) or by the
performing of the command word (O10). -/
theorem firstFailingCheckIsReported : Obligations.FirstFailingCheckIsReported := by
  refine ⟨fun s a d rest hs => ⟨stepRecords_of_refused_write hs, ?_, ?_, ?_, ?_, ?_, ?_,
    step_of_wr_writable_keeps_status hs⟩,
    fun s a rest hs => ⟨stepRecords_of_refused_read hs, step_of_rd_readable_keeps_status hs⟩⟩
  · rintro rfl
    exact (writingTheRateMakesTheContext s d rest hs).2
  · rintro rfl
    exact step_of_supported_rate_keeps_errors hs
  · rintro rfl hbad
    obtain ⟨_, hdecode⟩ := exists_decode_illegal hbad
    exact stepRecords_of_illegal hs hdecode
  · rintro rfl hbad
    obtain ⟨_, hdecode⟩ := exists_decode_badUnit hbad
    exact stepRecords_of_badUnit hs hdecode
  · rintro rfl hcmd hunit hopc hctx
    exact errorsNoContext_of_mem hopc s d rest hs rfl hcmd hunit hctx
  · rintro rfl hcmd hunit hctx
    obtain ⟨i, hdecode⟩ := exists_decode_command hcmd hunit
    rw [step_of_command s d i rest hs hdecode]
    exact exec_keeps_status (not_execReports_of_decode (s := { s with host := rest }) hdecode hctx)

/-! ### Every step goes on (R240) -/

theorem exists_exec_next (i : Instr) (s : State) : ∃ t, exec i s = .next t :=
  (exec_cases i s).elim (fun ⟨_, _, hx⟩ => ⟨_, hx⟩) fun ⟨_, _, _, hx⟩ => ⟨_, hx⟩

theorem exists_perform_next (c : Word) (s : State) : ∃ t, perform c s = .next t := by
  obtain ⟨-, -, hp⟩ | ⟨-, -, hp⟩ | ⟨i, -, hp⟩ := perform_cases c s
  · exact ⟨_, hp⟩
  · exact ⟨_, hp⟩
  · exact hp ▸ exists_exec_next i s

theorem exists_hostWrite_next (a : RegNum) (d : Word) (s : State) : ∃ t, hostWrite a d s = .next t := by
  obtain ⟨-, hw⟩ | ⟨-, -, -, hw⟩ | ⟨-, -, -, hw⟩ | ⟨-, -, -, hw⟩ | ⟨r, -, -, hw⟩ := hostWrite_cases a d s
  · exact ⟨_, hw⟩
  · exact ⟨_, hw⟩
  · exact hw ▸ exists_perform_next d s
  · exact ⟨_, hw⟩
  · exact ⟨_, hw⟩

/-- The block takes every event but a second host's. -/
theorem exists_deliver_next {e : HostEvent} (he : e ≠ .otherHost) (s : State) : ∃ t, deliver e s = .next t := by
  cases e with
  | wr a d => exact exists_hostWrite_next a d s
  | rd a => exact ⟨_, rfl⟩
  | hwReset => exact ⟨_, rfl⟩
  | otherHost => exact absurd rfl he

theorem exists_step_next {s : State} (h : s.host.head? ≠ some .otherHost) : ∃ t, step s = .next t := by
  cases hs : s.host with
  | nil => exact ⟨s, step_of_nil s hs⟩
  | cons e rest =>
    rw [hs, List.head?_cons] at h
    rw [step_of_cons s e rest hs]
    exact exists_deliver_next (fun he => h (congrArg some he)) _

theorem step_of_otherHost {s : State} (h : s.host.head? = some .otherHost) : step s = .refused .secondHost := by
  obtain ⟨rest, hs⟩ := List.head?_eq_some_iff.1 h
  exact step_of_cons s _ rest hs

/-- Settles O13. -/
theorem onlyASecondHostIsRefused : Obligations.OnlyASecondHostIsRefused :=
  ⟨fun _ => exists_step_next, fun _ => step_of_otherHost, step_of_nil⟩

/-! ### Runs without a hardware reset (R242) -/

/-- Taking an event leaves the list of the events to come alone. -/
theorem host_of_takes {s t : State} {e : HostEvent} (h : Takes s e t) : t.host = s.host := by
  cases h with
  | stores a d => exact writeReg_host _ d s
  | executes a d hf =>
    obtain ⟨-, -, -, hhost, -⟩ := acts_system hf s
    exact hhost
  | _ => rfl

/-- A step adds no event. -/
theorem host_subset_of_step {s t : State} (h : step s = .next t) : t.host ⊆ s.host := by
  obtain ⟨-, rfl⟩ | ⟨e, rest, hs, ht⟩ := step_next_cases h
  · exact List.Subset.refl _
  · rw [host_of_takes ht, hs]
    exact List.subset_cons_self e rest

/-- No error bit after a step means none before it, since the step keeps every error bit that is set (O17). -/
theorem noError_of_step {s t : State} (h : step s = .next t) (hr : s.host.head? ≠ some .hwReset) (ht : NoError t) :
    NoError s := by
  obtain ⟨hkept, -⟩ := onlyResetClearsStatus s t hr h
  have hclear : ∀ k, 8 ≤ k → k < 8 + 5 → s.status.getLsbD k = false := fun k hlo hhi =>
    Bool.eq_false_iff.2 fun hset => extractLsb'_ne_zero hlo hhi (hkept k (.inr ⟨hlo, by omega⟩) hset) ht
  exact extractLsb'_congr (y := 0) (by simpa using hclear)

theorem run_succ_of_next (M : Host.Core) {s t : M.State} (h : M.step s = .next t) (k : Nat) :
    M.run (k + 1) s = M.run k t := by
  rw [Host.Core.run, h]

theorem run_succ_of_refused (M : Host.Core) {s : M.State} {r : M.Refusal} (h : M.step s = .refused r) (k : Nat) :
    M.run (k + 1) s = .refused r := by
  rw [Host.Core.run, h]

/-- A run that reaches a state has taken its first step. -/
theorem exists_step_of_run_succ {s t : State} {k : Nat} (h : core.run (k + 1) s = .next t) :
    ∃ u, step s = .next u ∧ core.run k u = .next t := by
  cases hstep : step s with
  | next u => exact ⟨u, rfl, (run_succ_of_next core hstep k).symm.trans h⟩
  | fault r => cases r
  | refused r => cases (run_succ_of_refused core hstep k).symm.trans h

/-- Settles O18, by induction on the run's length: the rest of the run has no error bit at its start, so the first step
left none set. -/
theorem noErrorAtTheEndMeansNoErrorEver : Obligations.NoErrorAtTheEndMeansNoErrorEver := by
  intro k
  induction k with
  | zero =>
    intro s t _ hrun ht j hj
    obtain rfl := Nat.le_zero.1 hj
    exact ⟨t, hrun, ht⟩
  | succ k ih =>
    intro s t hr hrun ht j hj
    obtain ⟨u, hstep, hrest⟩ := exists_step_of_run_succ hrun
    have hprefix := ih u t (fun hmem => hr (host_subset_of_step hstep hmem)) hrest ht
    cases j with
    | zero =>
      obtain ⟨v, hv, hnoError⟩ := hprefix 0 (Nat.zero_le k)
      cases hv
      exact ⟨s, rfl, noError_of_step hstep (fun hhead => hr (List.mem_of_mem_head? hhead)) hnoError⟩
    | succ j =>
      obtain ⟨v, hv, hnoError⟩ := hprefix j (Nat.le_of_succ_le_succ hj)
      exact ⟨v, (run_succ_of_next core hstep j).trans hv, hnoError⟩

end Sys2Proof.Proofs
end

section
/-! The hardware reset: O14 (`70_reset_and_hazards.md` R260). Every register reads after it as in the fixed reset state,
whatever the state was, so the reset column of the register map (O5) holds of it. -/

namespace Sys2Proof.Proofs

open Sys2Proof.Machine Sys2Proof.Claims

@[simp] theorem getOsc_hardwareReset (u : Fin 2) (s : State) : getOsc u (hardwareReset s) = getOsc u State.reset :=
  match u with | 0 => rfl | 1 => rfl

@[simp] theorem getEnv_hardwareReset (e : Fin 4) (s : State) : getEnv e (hardwareReset s) = getEnv e State.reset :=
  match e with | 0 => rfl | 1 => rfl | 2 => rfl | 3 => rfl

@[simp] theorem getLfo_hardwareReset (l : Fin 2) (s : State) : getLfo l (hardwareReset s) = getLfo l State.reset :=
  match l with | 0 => rfl | 1 => rfl

/-- No register remembers the state before a hardware reset. -/
theorem readReg_hardwareReset (r : Reg) (s : State) : readReg r (hardwareReset s) = readReg r State.reset := by
  cases r with
  | osc u r => exact congrArg (readOscReg · r) (getOsc_hardwareReset u s)
  | env e r => exact congrArg (readEnvReg · r) (getEnv_hardwareReset e s)
  | lfo l r => exact congrArg (readLfoReg · r) (getLfo_hardwareReset l s)
  | _ => rfl

theorem readsAsReset_hardwareReset (s : State) : ReadsAsReset (hardwareReset s) registerMap := fun row hrow v hv =>
  (readReg_hardwareReset row.2.1 s).trans (readsAsReset_reset row hrow v hv)

theorem step_of_hwReset {s : State} {rest : List HostEvent} (h : s.host = .hwReset :: rest) :
    step s = .next (hardwareReset { s with host := rest }) := step_of_cons s _ rest h

/-- Settles O14: the step is the hardware reset of the state whose first event has been taken. -/
theorem hardwareResetResetsEveryRegister : Obligations.HardwareResetResetsEveryRegister := fun s rest hs =>
  ⟨hardwareReset { s with host := rest }, step_of_hwReset hs, readsAsReset_hardwareReset _,
    hardwareReset_host _, hardwareReset_answers _⟩

end Sys2Proof.Proofs
end
